-- ==== Sys2Proof/Word.lean ====
section
/-! DEFINITION. The word of the machine: a byte (00_scope.md R9). No field of a frame is wider (20_memory.md R91). -/

namespace Sys2Proof

/-- A byte: 8 bits, bit 0 the least significant (R9). -/
abbrev Byte := BitVec 8

end Sys2Proof
end

