-- ==== Sys2Proof/Config.lean ====
section
/-! DEFINITION. What an instance of the block fixes: the constants the source states (00_scope.md R7, table T-FIXED)
and the parameter record of R8. The record is an argument of the model (it stands in `State.cfg`, which no step
writes), so a statement about every state holds for every instance; `Config.default` only serves reset and tests. -/

namespace Sys2Proof

/-- The address mode of a message (10_state.md R21): "address-mode ∈ {None,Physical,Functional}". -/
inductive AddrMode where
  | none | physical | functional
deriving DecidableEq, Repr

/-- A timing set (R27): six unsigned numbers of milliseconds, each held in 32 bits. -/
structure TimingSet where
  p1max : Nat
  p2min : Nat
  p2max : Nat
  p3min : Nat
  p3max : Nat
  p4min : Nat
deriving DecidableEq, Repr

/-- R27: a legal value of every field is at most 2^30. -/
def TimingSet.legal (t : TimingSet) : Bool :=
  t.p1max ≤ 2 ^ 30 && t.p2min ≤ 2 ^ 30 && t.p2max ≤ 2 ^ 30
    && t.p3min ≤ 2 ^ 30 && t.p3max ≤ 2 ^ 30 && t.p4min ≤ 2 ^ 30

namespace Fixed

/-- `MARGIN`, milliseconds (R7). -/
@[simp] def margin : Nat := 13
/-- `P2_SAFETY` (R7). -/
@[simp] def p2Safety : Nat := 2
/-- `DISC_TIMEOUT`, milliseconds (R7). -/
@[simp] def discTimeout : Nat := 5000
/-- `MAX_UNSOLICITED` (R7). -/
@[simp] def maxUnsolicited : Nat := 5
/-- `MAX_UNANSWERED` (R7). -/
@[simp] def maxUnanswered : Nat := 3
/-- `SYNC_BYTE` (R7). -/
@[simp] def syncByte : Byte := 0x55#8
/-- `BAUD_A` (R7). -/
@[simp] def baudA : BitVec 32 := 9600#32
/-- `BAUD_B` (R7). -/
@[simp] def baudB : BitVec 32 := 10400#32
/-- One bit at `SLOW_BAUD` = 5 baud: 200 ms, in microseconds (R7, R213). -/
@[simp] def slowBit : Int := 200000
/-- `FAST_IDLE`, milliseconds (R7). -/
@[simp] def fastIdle : Nat := 2600
/-- `KEYBYTE_MASK` (R7). -/
@[simp] def keyByteMask : Byte := 0x7F#8
/-- `RESPONSE_BIT` (R7). -/
@[simp] def responseBit : Byte := 0x40#8
/-- `MAX_DATA_LEN` (R7): the largest wire length `L`. -/
@[simp] def maxDataLen : Nat := 255
/-- `MAX_FRAME` (R7). -/
@[simp] def maxFrame : Nat := 260

end Fixed

/-- The parameters of R8, one field each; times are microseconds as R8 gives them. -/
structure Config where
  /-- `RXBUF_CAP`, bytes, at least 260; OPEN (D5). -/
  rxbufCap : Nat
  /-- `TXQ_CAP`, entries, at least 2; OPEN. D6 reads an unbounded queue as `TXQ_CAP` = ∞; every instance of the model has a
  bounded queue (DESIGN CHOICE, log 32). -/
  txqCap : Nat
  /-- `POLL_SLEEP`; OPEN (D40). -/
  pollSleep : Nat
  /-- `PROBE_TIMEOUT` (D40). -/
  probeTimeout : Nat
  /-- `TESTER_ADDR` (D41). -/
  testerAddr : Byte
  /-- `SID_START_COMM` (D41). -/
  sidStartComm : Byte
  /-- `SID_STOP_COMM` (D41). -/
  sidStopComm : Byte
  /-- `SID_TESTER_PRESENT` (D41). -/
  sidTesterPresent : Byte
  /-- `SID_NEG_RESP` (D41). -/
  sidNegResp : Byte
  /-- `RC_RESPONSE_PENDING` (D41). -/
  rcResponsePending : Byte
  /-- `RC_BUSY` (D41). -/
  rcBusy : Byte
  /-- `TP_DEFAULT_RESET` (D42). -/
  tpDefaultReset : TimingSet
  /-- `TP_LIMITS_RESET`; OPEN (D42). -/
  tpLimitsReset : TimingSet
  /-- `KEEPALIVE_EN` (D20). -/
  keepaliveEn : Bool
  /-- `KEEPALIVE_MODE` (D20). -/
  keepaliveMode : AddrMode
  /-- `CHECK_KB_PARITY`; OPEN (D37). -/
  checkKbParity : Bool
  /-- `VERIFY_COMPLEMENT_ECHO` (D35). -/
  verifyComplementEcho : Bool
  /-- `SLOW_OFFSET`, signed (D33). -/
  slowOffset : Int
  /-- `SLOW_IDLE` (D33). -/
  slowIdle : Nat
  /-- `SLOW_INIT_BAUD` (D34). -/
  slowInitBaud : BitVec 32
  /-- `SYNC_TIMEOUT`; OPEN (D34). -/
  syncTimeout : Nat
  /-- `KB_TIMEOUT`; OPEN (D34). -/
  kbTimeout : Nat
  /-- `W4_DELAY` (D35). -/
  w4Delay : Nat
  /-- `COMPL_TIMEOUT`; OPEN (D35). -/
  complTimeout : Nat
  /-- `LEGACY_KB` (D36). -/
  legacyKb : Byte × Byte
  /-- `INTER_INIT_DELAY`; OPEN (D36). -/
  interInitDelay : Nat
  /-- `FAST_LOW` (D38). -/
  fastLow : Nat
  /-- `FAST_HIGH` (D38). -/
  fastHigh : Nat
  /-- `FAST_BAUD` (D38). -/
  fastBaud : BitVec 32
  /-- `FAST_IGNORE` (D38); `IGNORE_CNT` is at most 255 (R36). -/
  fastIgnore : Nat
  /-- `STARTCOMM_MODE` (D38). -/
  startcommMode : AddrMode
  /-- `TX_PACE_P4` (D43). -/
  txPaceP4 : Bool
deriving DecidableEq, Repr

/-- The constraints of R8 (column "constraint") and R36 on a parameter record. -/
def Config.ok (c : Config) : Bool :=
  260 ≤ c.rxbufCap && 2 ≤ c.txqCap
    && !c.sidStartComm.getLsbD 6 && !c.sidStopComm.getLsbD 6 && !c.sidTesterPresent.getLsbD 6
    && c.sidNegResp.getLsbD 6
    && c.tpDefaultReset.legal && c.tpLimitsReset.legal
    && decide (0 < Fixed.slowBit + c.slowOffset)
    && (c.slowInitBaud == Fixed.baudA || c.slowInitBaud == Fixed.baudB)
    && c.fastIgnore ≤ 255

/-- The parameter values reset and the tests use: the defaults of R8, and for the OPEN parameters the test values of
92_eei_decisions.md, last paragraph (DESIGN CHOICE, log 3). -/
def Config.default : Config where
  rxbufCap := 1024
  txqCap := 16
  pollSleep := 1000
  probeTimeout := 0
  testerAddr := 0xF1#8
  sidStartComm := 0x81#8
  sidStopComm := 0x82#8
  sidTesterPresent := 0x3E#8
  sidNegResp := 0x7F#8
  rcResponsePending := 0x78#8
  rcBusy := 0x21#8
  tpDefaultReset := ⟨20, 25, 50, 55, 5000, 5⟩
  tpLimitsReset := ⟨20, 25, 50, 55, 5000, 5⟩
  keepaliveEn := true
  keepaliveMode := .physical
  checkKbParity := false
  verifyComplementEcho := true
  slowOffset := 0
  slowIdle := 300000
  slowInitBaud := 10400#32
  syncTimeout := 300000
  kbTimeout := 20000
  w4Delay := 25000
  complTimeout := 50000
  legacyKb := (0x01#8, 0x8A#8)
  interInitDelay := 2000000
  fastLow := 25000
  fastHigh := 25000
  fastBaud := 10400#32
  fastIgnore := 0
  startcommMode := .physical
  txPaceP4 := false

end Sys2Proof
end

