-- ==== Sys2Proof/Syntax.lean ====
section
/-! DEFINITION. The items of spec/opcode_table.json as ONE inductive, `Instr`, one constructor per row (30_encoding.md
R131), and the records its operands are made of. -/

namespace Sys2Proof

/-- A message record (10_state.md R21). `maxRetries` is not on the wire. -/
structure Message where
  mode : AddrMode
  src : Byte
  dst : Byte
  sid : Byte
  data : List Byte
  maxRetries : Nat
deriving DecidableEq, Repr

/-- Equality of messages (R21): `max_retries` does not take part. -/
def Message.same (a b : Message) : Bool :=
  a.mode == b.mode && a.src == b.src && a.dst == b.dst && a.sid == b.sid && a.data == b.data

/-- `CONN_MODE` and the operand `mode` of CONNECT (R23). -/
inductive ConnMode where
  | slowInit | fastInit
deriving DecidableEq, Repr

/-- The operand `which` of SET_TIMING (44_host_commands.md R315). -/
inductive WhichTiming where
  | default | current | limits
deriving DecidableEq, Repr

/-- Where a service id is met: in a message received (dispatch, 43_message_interface.md R270) or in the message at the
head of the send queue (transmit, R286). -/
inductive Dir where
  | rx | tx
deriving DecidableEq, Repr

/-- The operand of READ_STATUS: a state element of 10_state.md R20, in its order (R319). -/
inductive Element where
  /-- `CONN_STATE` -/
  | connState
  /-- `CONN_MODE` -/
  | connMode
  /-- `CONN_ATTEMPTS_LEFT` -/
  | connAttemptsLeft
  /-- `INIT_ADDR` -/
  | initAddr
  /-- `SECOND_ADDR` -/
  | secondAddr
  /-- `COMM_ADDR` -/
  | commAddr
  /-- `KEY_BYTES` -/
  | keyBytes
  /-- `KEY_VALID` -/
  | keyValid
  /-- `BAUD` -/
  | baud
  /-- `BREAK_OUT` -/
  | breakOut
  /-- `TP_DEFAULT` -/
  | tpDefault
  /-- `TP_CURRENT` -/
  | tpCurrent
  /-- `TP_LIMITS` -/
  | tpLimits
  /-- `P2MAX_EFF` -/
  | p2maxEff
  /-- `SW_P1` -/
  | swP1
  /-- `SW_P2` -/
  | swP2
  /-- `SW_P3` -/
  | swP3
  /-- `SW_DISC` -/
  | swDisc
  /-- `RXBUF` -/
  | rxbuf
  /-- `RX_DIRTY` -/
  | rxDirty
  /-- `P1_FLUSH_PENDING` -/
  | p1FlushPending
  /-- `ECHO_FIFO` -/
  | echoFifo
  /-- `IGNORE_CNT` -/
  | ignoreCnt
  /-- `FOUND_ECHO` -/
  | foundEcho
  /-- `TXQ` -/
  | txq
  /-- `EXPECTING_RESP` -/
  | expectingResp
  /-- `RESP_COUNT` -/
  | respCount
  /-- `UNSOLICITED_CNT` -/
  | unsolicitedCnt
  /-- `UNANSWERED_CNT` -/
  | unansweredCnt
  /-- `PHASE` -/
  | phase
  /-- `HS_STEP` -/
  | hsStep
  /-- `HS_ADDR` -/
  | hsAddr
  /-- `HS_T0` -/
  | hsT0
  /-- `HS_KB` -/
  | hsKb
  /-- `HS_KIND` -/
  | hsKind
  /-- `HS_CHAINED` -/
  | hsChained
  /-- `LOCK_HELD` -/
  | lockHeld
  /-- `EVENTS` -/
  | events
deriving DecidableEq, Repr

/-- The encoded items of the table, in its order. -/
inductive Instr where
  /-- `H1X` 00000000: no address, length byte follows (R113). -/
  | h1x
  /-- `H1I` 00LLLLLL: no address, inline length (R113). -/
  | h1i (l : BitVec 6)
  /-- `HRV` 01LLLLLL: reserved address mode (R120). -/
  | hrv (l : BitVec 6)
  /-- `H3PX` 10000000: physical, length byte (R113). -/
  | h3px
  /-- `H3PI` 10LLLLLL: physical, inline length (R113). -/
  | h3pi (l : BitVec 6)
  /-- `H3FX` 11000000: functional, length byte (R113). -/
  | h3fx
  /-- `H3FI` 11LLLLLL: functional, inline length (R113). -/
  | h3fi (l : BitVec 6)
  /-- `StartCommunication.req` 0x81 (R122). -/
  | startCommunicationReq (d : Dir)
  /-- `StartCommunication.pos` 0xC1 (R122). -/
  | startCommunicationPos (d : Dir)
  /-- `StopCommunication.req` 0x82 (R122). -/
  | stopCommunicationReq (d : Dir)
  /-- `StopCommunication.pos` 0xC2 (R122). -/
  | stopCommunicationPos (d : Dir)
  /-- `TesterPresent.req` 0x3E (R122). -/
  | testerPresentReq (d : Dir)
  /-- `TesterPresent.pos` 0x7E (R122). -/
  | testerPresentPos (d : Dir)
  /-- `StartDiagnosticSession.req` 0x10 (R122). -/
  | startDiagnosticSessionReq (d : Dir)
  /-- `StartDiagnosticSession.pos` 0x50 (R122). -/
  | startDiagnosticSessionPos (d : Dir)
  /-- `ReadMemoryByAddress.req` 0x23 (R122). -/
  | readMemoryByAddressReq (d : Dir)
  /-- `ReadMemoryByAddress.pos` 0x63 (R122). -/
  | readMemoryByAddressPos (d : Dir)
  /-- `WriteMemoryByAddress.req` 0x3D (R122). -/
  | writeMemoryByAddressReq (d : Dir)
  /-- `WriteMemoryByAddress.pos` 0x7D (R122). -/
  | writeMemoryByAddressPos (d : Dir)
  /-- `SecurityAccess.req` 0x27 (R122). -/
  | securityAccessReq (d : Dir)
  /-- `SecurityAccess.pos` 0x67 (R122). -/
  | securityAccessPos (d : Dir)
  /-- `RequestDownload.req` 0x34 (R122). -/
  | requestDownloadReq (d : Dir)
  /-- `RequestDownload.pos` 0x74 (R122). -/
  | requestDownloadPos (d : Dir)
  /-- `RequestUpload.req` 0x35 (R122). -/
  | requestUploadReq (d : Dir)
  /-- `RequestUpload.pos` 0x75 (R122). -/
  | requestUploadPos (d : Dir)
  /-- `TransferData.req` 0x36 (R122). -/
  | transferDataReq (d : Dir)
  /-- `TransferData.pos` 0x76 (R122). -/
  | transferDataPos (d : Dir)
  /-- `RequestTransferExit.req` 0x37 (R122). -/
  | requestTransferExitReq (d : Dir)
  /-- `RequestTransferExit.pos` 0x77 (R122). -/
  | requestTransferExitPos (d : Dir)
  /-- `ReadECUIdentification.req` 0x1A (R122). -/
  | readECUIdentificationReq (d : Dir)
  /-- `ReadECUIdentification.pos` 0x5A (R122). -/
  | readECUIdentificationPos (d : Dir)
  /-- `ReadDataByLocalIdentifier.req` 0x21 (R122). -/
  | readDataByLocalIdentifierReq (d : Dir)
  /-- `ReadDataByLocalIdentifier.pos` 0x61 (R122). -/
  | readDataByLocalIdentifierPos (d : Dir)
  /-- `ReadDataByCommonIdentifier.req` 0x22 (R122). -/
  | readDataByCommonIdentifierReq (d : Dir)
  /-- `ReadDataByCommonIdentifier.pos` 0x62 (R122). -/
  | readDataByCommonIdentifierPos (d : Dir)
  /-- `ReadDiagnosticTroubleCodesByStatus.req` 0x18 (R122). -/
  | readDiagnosticTroubleCodesByStatusReq (d : Dir)
  /-- `ReadDiagnosticTroubleCodesByStatus.pos` 0x58 (R122). -/
  | readDiagnosticTroubleCodesByStatusPos (d : Dir)
  /-- `ClearDiagnosticInformation.req` 0x14 (R122). -/
  | clearDiagnosticInformationReq (d : Dir)
  /-- `ClearDiagnosticInformation.pos` 0x54 (R122). -/
  | clearDiagnosticInformationPos (d : Dir)
  /-- `VendorDataLoggingDefine.req` 0xB7 (R122). -/
  | vendorDataLoggingDefineReq (d : Dir)
  /-- `VendorDataLoggingDefine.pos` 0xF7 (R122). -/
  | vendorDataLoggingDefinePos (d : Dir)
  /-- `VendorDataLoggingRead.req` 0xB8 (R122). -/
  | vendorDataLoggingReadReq (d : Dir)
  /-- `VendorDataLoggingRead.pos` 0xF8 (R122). -/
  | vendorDataLoggingReadPos (d : Dir)
  /-- `NegativeResponse` 0x7F (R122). -/
  | negativeResponse (d : Dir)
  /-- `AnyResponse` x1xxxxxx: every other service id with bit 6 set (R121). -/
  | anyResponse (b : Byte) (d : Dir)
  /-- `AnyRequest` x0xxxxxx: every other service id with bit 6 clear (R121, R271). -/
  | anyRequest (b : Byte) (d : Dir)
  /-- `ResponsePending` 0x78, a response code (R123, R279). -/
  | responsePending
  /-- `BusyRepeatRequest` 0x21, a response code (R123, R280). -/
  | busyRepeatRequest
  /-- `OtherCode`: every other response code (R123, R281, R282). -/
  | otherCode (c : Byte)
  /-- `SYNC` 0x55 (R126, R217). -/
  | sync
  /-- `ADDR5` 0abcdefgp1: the 5-baud character of the low seven bits of `HS_ADDR` (R125, R213). -/
  | addr5 (a : BitVec 7)
  /-- `KB1` p1tuhbxx: key byte 1 (R126, R223). -/
  | kb1 (p t u h b : Bool) (x : BitVec 2)
  /-- `KB2` pxxxxxxx: key byte 2 (R126, R224). -/
  | kb2 (p : Bool) (x : BitVec 7)
  /-- `KB2_COMPLEMENT` nnnnnnnn: the complement the tester sends (R127, R225). -/
  | kb2Complement (n : Byte)
  /-- `ADDR_COMPLEMENT` nnnnnnnn: the byte the ECU answers in step S7 (R127, R229). -/
  | addrComplement (n : Byte)
  /-- `FAST_WAKEUP` i01: the level pattern of fast-init (R128, R231 to R233). -/
  | fastWakeup
  /-- `CONNECT` 0x01 (R129, R312). -/
  | connect (mode : ConnMode) (addr : Byte) (second : Option Byte) (attempts : Nat)
  /-- `DISCONNECT` 0x02 (R129, R313). -/
  | disconnect
  /-- `TERMINATE` 0x03 (R129, R314). -/
  | terminate
  /-- `ENQUEUE` 0x04 (R129, R316). -/
  | enqueue (m : Message) (probe : Bool)
  /-- `SET_TIMING` 0x05 (R129, R315). -/
  | setTiming (which : WhichTiming) (tp : TimingSet)
  /-- `RESET_TIMING` 0x06 (R129, R317). -/
  | resetTiming
  /-- `SET_BAUD` 0x07 (R129, R318). -/
  | setBaud (rate : BitVec 32)
  /-- `READ_STATUS` 0x08 (R129, R319). -/
  | readStatus (e : Element)
  /-- `UNASSIGNED`: codes 0x00 and 0x09 to 0xFF (R129, R320). -/
  | unassigned (code : Byte)
deriving DecidableEq, Repr

end Sys2Proof
end

