-- ==== Sys2Proof/WellFormed.lean ====
section
/-! DEFINITION. Which terms of `Instr` are items of the table: an operand is inside the row's own constraint and, for a
host command, inside the range the model's operand layout can carry (log 10). -/

namespace Sys2Proof

/-- The service ids the table has a row of their own for (30_encoding.md R122), in its order. -/
def namedSids : List Byte :=
  [0x81#8, 0xC1#8, 0x82#8, 0xC2#8, 0x3E#8, 0x7E#8, 0x10#8, 0x50#8,
   0x23#8, 0x63#8, 0x3D#8, 0x7D#8, 0x27#8, 0x67#8, 0x34#8, 0x74#8,
   0x35#8, 0x75#8, 0x36#8, 0x76#8, 0x37#8, 0x77#8, 0x1A#8, 0x5A#8,
   0x21#8, 0x61#8, 0x22#8, 0x62#8, 0x18#8, 0x58#8, 0x14#8, 0x54#8,
   0xB7#8, 0xF7#8, 0xB8#8, 0xF8#8, 0x7F#8]

/-- A timing set whose fields fit the 32 bits they are held in (10_state.md R27). -/
def TimingSet.fits (t : TimingSet) : Bool :=
  t.p1max < 2 ^ 32 && t.p2min < 2 ^ 32 && t.p2max < 2 ^ 32
    && t.p3min < 2 ^ 32 && t.p3max < 2 ^ 32 && t.p4min < 2 ^ 32

/-- Well-formedness of an item, row by row. -/
def Instr.wf : Instr → Bool
  | .h1i l => l != 0#6
  | .h3pi l => l != 0#6
  | .h3fi l => l != 0#6
  | .anyResponse b _ => b.getLsbD 6 && !namedSids.contains b
  | .anyRequest b _ => !b.getLsbD 6 && !namedSids.contains b
  | .otherCode c => c != 0x78#8 && c != 0x21#8
  | .connect _ _ _ attempts => attempts < 2 ^ 64
  | .enqueue m _ => m.maxRetries < 2 ^ 64 && m.data.length < 2 ^ 32
  | .setTiming _ tp => tp.fits
  | .unassigned c => c == 0x00#8 || 0x09#8 ≤ c
  | .h1x | .h3px | .h3fx | .responsePending | .busyRepeatRequest
  | .sync | .fastWakeup | .disconnect | .terminate | .resetTiming
  | .hrv _ | .addr5 _ | .kb2Complement _ | .addrComplement _ | .setBaud _ | .readStatus _
  | .kb1 _ _ _ _ _ _ | .kb2 _ _
  | .startCommunicationReq _ | .startCommunicationPos _ | .stopCommunicationReq _
  | .stopCommunicationPos _ | .testerPresentReq _ | .testerPresentPos _
  | .startDiagnosticSessionReq _ | .startDiagnosticSessionPos _ | .readMemoryByAddressReq _
  | .readMemoryByAddressPos _ | .writeMemoryByAddressReq _ | .writeMemoryByAddressPos _
  | .securityAccessReq _ | .securityAccessPos _ | .requestDownloadReq _
  | .requestDownloadPos _ | .requestUploadReq _ | .requestUploadPos _
  | .transferDataReq _ | .transferDataPos _ | .requestTransferExitReq _
  | .requestTransferExitPos _ | .readECUIdentificationReq _ | .readECUIdentificationPos _
  | .readDataByLocalIdentifierReq _ | .readDataByLocalIdentifierPos _ | .readDataByCommonIdentifierReq _
  | .readDataByCommonIdentifierPos _ | .readDiagnosticTroubleCodesByStatusReq _ | .readDiagnosticTroubleCodesByStatusPos _
  | .clearDiagnosticInformationReq _ | .clearDiagnosticInformationPos _ | .vendorDataLoggingDefineReq _
  | .vendorDataLoggingDefinePos _ | .vendorDataLoggingReadReq _ | .vendorDataLoggingReadPos _
  | .negativeResponse _ => true

end Sys2Proof
end

