-- ==== Sys2Proof/Decode.lean ====
section
/-! DEFINITION. The decoder, total on any bytes, and after it the encoder, both from the tables of 30_encoding.md.
An item is recognised by the PLACE it stands at (a `Port`): the same byte is a header form at the front of a frame, a
service id behind the header, a key byte in a handshake or a command code at the host port (30_encoding.md R131 has five
formats for that reason). `decode p bs` reads one item at the front of `bs` and answers the bytes after it. -/

namespace Sys2Proof

/-- The places of the machine that hold encoded items (30_encoding.md R131: formats FMT, SID, NRC, HS, CMD; the rows of
format HS are "recognised by position in the handshake"). -/
inductive Port where
  /-- The format byte at the scan position of `RXBUF` (FMT). -/
  | header
  /-- The service id of the message received, or of the head of the send queue (SID). -/
  | service (d : Dir)
  /-- The response code of a matched negative response (NRC). -/
  | code
  /-- The byte `LineRead` delivers in step S3 (HS). -/
  | sync
  /-- The character step S1 sends (HS). -/
  | char5
  /-- Key byte 1 in step S5 (HS). -/
  | key1
  /-- Key byte 2 in step S5 (HS). -/
  | key2
  /-- The complement step S6 sends (HS). -/
  | complement
  /-- The byte `LineRead` delivers in step S7 (HS). -/
  | addrComplement
  /-- The level pattern of steps F1 to F3 (HS). -/
  | wakeup
  /-- The host command port (CMD). -/
  | command
deriving DecidableEq, Repr

/-- Why the decoder rejects. -/
inductive DecodeError where
  /-- There is no byte to read. -/
  | noBytes
  /-- The byte at the sync position is not 0x55 (R126). -/
  | notSync
  /-- The ten slots are no 5-baud character: start, stop or parity is wrong (R125). -/
  | badCharacter
  /-- Bit 6 of key byte 1 is clear (R126: "always 1"). -/
  | keyByte1Bit6
  /-- The three slots are not the wake-up pattern (R128). -/
  | badWakeup
  /-- The operand bytes of the host command `c` cannot be read in the model's layout (log 10). -/
  | badOperand (c : Byte)
deriving DecidableEq, Repr

/-! ### Bit helpers -/

/-- The seven address bits, least significant first (R125). -/
def bits7 (a : BitVec 7) : List Bool :=
  [a.getLsbD 0, a.getLsbD 1, a.getLsbD 2, a.getLsbD 3, a.getLsbD 4, a.getLsbD 5, a.getLsbD 6]

/-- The eight bits of a byte, least significant first. -/
def bits8 (b : Byte) : List Bool :=
  [b.getLsbD 0, b.getLsbD 1, b.getLsbD 2, b.getLsbD 3, b.getLsbD 4, b.getLsbD 5, b.getLsbD 6, b.getLsbD 7]

/-- How many of the bits are 1. -/
def ones : List Bool → Nat
  | [] => 0
  | b :: bs => b.toNat + ones bs

/-- The odd-parity bit `p` of R125: 1 when `a` has an even number of one bits. -/
def parity5 (a : BitVec 7) : Bool := ones (bits7 a) % 2 == 0

/-- The ten levels of the 5-baud character, slot 0 first, `true` = line high (R125). -/
def levels5 (a : BitVec 7) : List Bool := false :: bits7 a ++ [parity5 a, true]

/-- The level of slot `k` (R125, R213). -/
def level5 (a : BitVec 7) (k : Nat) : Bool := (levels5 a).getD k true

/-- A list of bits as a number, the first the most significant (the way the table's bit texts are read). -/
def packBits : List Bool → Nat
  | [] => 0
  | b :: bs => b.toNat * 2 ^ bs.length + packBits bs

/-- `k` bytes of `n`, least significant first (log 10). -/
def natBytes : Nat → Nat → List Byte
  | 0, _ => []
  | k + 1, n => BitVec.ofNat 8 n :: natBytes k (n / 256)

/-- The number in `k` bytes, least significant first, and what follows. -/
def readNat : Nat → List Byte → Option (Nat × List Byte)
  | 0, bs => some (0, bs)
  | _ + 1, [] => none
  | k + 1, b :: bs =>
    match readNat k bs with
    | some (n, r) => some (b.toNat + 256 * n, r)
    | none => none

/-- One byte and what follows. -/
def readByte : List Byte → Option (Byte × List Byte)
  | [] => none
  | b :: r => some (b, r)

/-- `n` bytes and what follows. -/
def readBytes (n : Nat) (bs : List Byte) : Option (List Byte × List Byte) :=
  if n ≤ bs.length then some (bs.take n, bs.drop n) else none

/-! ### Decoding, format by format -/

/-- The header forms, the exact patterns before the field patterns (R113, R131). -/
def decodeHeader (b : Byte) : Instr :=
  let am : BitVec 2 := b.extractLsb' 6 2
  let il : BitVec 6 := b.extractLsb' 0 6
  if am = 0#2 then (if il = 0#6 then .h1x else .h1i il)
  else if am = 1#2 then .hrv il
  else if am = 2#2 then (if il = 0#6 then .h3px else .h3pi il)
  else (if il = 0#6 then .h3fx else .h3fi il)

/-- The rows of format SID with a number of their own (R122), in the table's order. -/
def sidRows : List (Byte × (Dir → Instr)) :=
  [(0x81#8, .startCommunicationReq), (0xC1#8, .startCommunicationPos),
   (0x82#8, .stopCommunicationReq), (0xC2#8, .stopCommunicationPos),
   (0x3E#8, .testerPresentReq), (0x7E#8, .testerPresentPos),
   (0x10#8, .startDiagnosticSessionReq), (0x50#8, .startDiagnosticSessionPos),
   (0x23#8, .readMemoryByAddressReq), (0x63#8, .readMemoryByAddressPos),
   (0x3D#8, .writeMemoryByAddressReq), (0x7D#8, .writeMemoryByAddressPos),
   (0x27#8, .securityAccessReq), (0x67#8, .securityAccessPos),
   (0x34#8, .requestDownloadReq), (0x74#8, .requestDownloadPos),
   (0x35#8, .requestUploadReq), (0x75#8, .requestUploadPos),
   (0x36#8, .transferDataReq), (0x76#8, .transferDataPos),
   (0x37#8, .requestTransferExitReq), (0x77#8, .requestTransferExitPos),
   (0x1A#8, .readECUIdentificationReq), (0x5A#8, .readECUIdentificationPos),
   (0x21#8, .readDataByLocalIdentifierReq), (0x61#8, .readDataByLocalIdentifierPos),
   (0x22#8, .readDataByCommonIdentifierReq), (0x62#8, .readDataByCommonIdentifierPos),
   (0x18#8, .readDiagnosticTroubleCodesByStatusReq), (0x58#8, .readDiagnosticTroubleCodesByStatusPos),
   (0x14#8, .clearDiagnosticInformationReq), (0x54#8, .clearDiagnosticInformationPos),
   (0xB7#8, .vendorDataLoggingDefineReq), (0xF7#8, .vendorDataLoggingDefinePos),
   (0xB8#8, .vendorDataLoggingReadReq), (0xF8#8, .vendorDataLoggingReadPos),
   (0x7F#8, .negativeResponse)]

/-- A service id: its own row, else one of the generic rows, which the table tests last (R121, R122, R131). -/
def decodeSid (d : Dir) (b : Byte) : Instr :=
  match sidRows.find? (fun row => row.1 == b) with
  | some row => row.2 d
  | none => if b.getLsbD 6 then .anyResponse b d else .anyRequest b d

/-- A response code (R123); the catch-all row last. -/
def decodeCode (c : Byte) : Instr :=
  if c = 0x78#8 then .responsePending else if c = 0x21#8 then .busyRepeatRequest else .otherCode c

/-- The 5-baud character in two bytes: slot `k` is bit `9 - k` of the word (R125, log 11). -/
def decodeChar5 (lo hi : Byte) : Option Instr :=
  let w := lo.toNat + 256 * hi.toNat
  let a : BitVec 7 := BitVec.ofNat 7 (packBits
    [w.testBit 2, w.testBit 3, w.testBit 4, w.testBit 5, w.testBit 6, w.testBit 7, w.testBit 8])
  if w = packBits (levels5 a) then some (.addr5 a) else none

/-- Key byte 1 by the bit texts of R126; bit 6 must be 1. -/
def decodeKey1 (b : Byte) : Option Instr :=
  if b.getLsbD 6 then
    some (.kb1 (b.getLsbD 7) (b.getLsbD 5) (b.getLsbD 4) (b.getLsbD 3) (b.getLsbD 2) (b.extractLsb' 0 2))
  else none

/-- `CONN_MODE` as an operand byte (log 10). -/
def readMode : List Byte → Option (ConnMode × List Byte)
  | b :: r => if b = 0#8 then some (.slowInit, r) else if b = 1#8 then some (.fastInit, r) else none
  | [] => none

/-- A flag as an operand byte (log 10). -/
def readFlag : List Byte → Option (Bool × List Byte)
  | b :: r => if b = 0#8 then some (false, r) else if b = 1#8 then some (true, r) else none
  | [] => none

/-- "none or byte" as operand bytes: 0, or 1 and the byte (log 10). -/
def readOptByte (bs : List Byte) : Option (Option Byte × List Byte) :=
  match readFlag bs with
  | some (false, r) => some (none, r)
  | some (true, b :: r) => some (some b, r)
  | _ => none

/-- An address mode as an operand byte (log 10). -/
def readAddrMode : List Byte → Option (AddrMode × List Byte)
  | b :: r =>
    if b = 0#8 then some (.none, r) else if b = 1#8 then some (.physical, r)
    else if b = 2#8 then some (.functional, r) else none
  | [] => none

/-- The operand `which` as a byte (log 10). -/
def readWhich : List Byte → Option (WhichTiming × List Byte)
  | b :: r =>
    if b = 0#8 then some (.default, r) else if b = 1#8 then some (.current, r)
    else if b = 2#8 then some (.limits, r) else none
  | [] => none

/-- The six fields of a timing set, four bytes each (log 10). -/
def readTiming (bs : List Byte) : Option (TimingSet × List Byte) := do
  let (a, r) ← readNat 4 bs
  let (b, r) ← readNat 4 r
  let (c, r) ← readNat 4 r
  let (d, r) ← readNat 4 r
  let (e, r) ← readNat 4 r
  let (f, r) ← readNat 4 r
  return (⟨a, b, c, d, e, f⟩, r)

/-- A message operand (log 10): mode, dst, src, sid, max_retries in 8 bytes, the data's length in 4, the data. -/
def readMessage (bs : List Byte) : Option (Message × List Byte) := do
  let (mode, r) ← readAddrMode bs
  let (dst, r) ← readByte r
  let (src, r) ← readByte r
  let (sid, r) ← readByte r
  let (retries, r) ← readNat 8 r
  let (n, r) ← readNat 4 r
  let (data, r) ← readBytes n r
  return (⟨mode, src, dst, sid, data, retries⟩, r)

/-- The state elements in the order of 10_state.md R20; an element's operand byte is its place here (log 10). -/
def elements : List Element :=
  [.connState, .connMode, .connAttemptsLeft, .initAddr, .secondAddr, .commAddr,
   .keyBytes, .keyValid, .baud, .breakOut, .tpDefault, .tpCurrent,
   .tpLimits, .p2maxEff, .swP1, .swP2, .swP3, .swDisc,
   .rxbuf, .rxDirty, .p1FlushPending, .echoFifo, .ignoreCnt, .foundEcho,
   .txq, .expectingResp, .respCount, .unsolicitedCnt, .unansweredCnt, .phase,
   .hsStep, .hsAddr, .hsT0, .hsKb, .hsKind, .hsChained,
   .lockHeld, .events]

/-- The place of a state element in `elements`. -/
def Element.index : Element → Nat
  | .connState => 0
  | .connMode => 1
  | .connAttemptsLeft => 2
  | .initAddr => 3
  | .secondAddr => 4
  | .commAddr => 5
  | .keyBytes => 6
  | .keyValid => 7
  | .baud => 8
  | .breakOut => 9
  | .tpDefault => 10
  | .tpCurrent => 11
  | .tpLimits => 12
  | .p2maxEff => 13
  | .swP1 => 14
  | .swP2 => 15
  | .swP3 => 16
  | .swDisc => 17
  | .rxbuf => 18
  | .rxDirty => 19
  | .p1FlushPending => 20
  | .echoFifo => 21
  | .ignoreCnt => 22
  | .foundEcho => 23
  | .txq => 24
  | .expectingResp => 25
  | .respCount => 26
  | .unsolicitedCnt => 27
  | .unansweredCnt => 28
  | .phase => 29
  | .hsStep => 30
  | .hsAddr => 31
  | .hsT0 => 32
  | .hsKb => 33
  | .hsKind => 34
  | .hsChained => 35
  | .lockHeld => 36
  | .events => 37

/-- An element operand (log 10). -/
def readElement : List Byte → Option (Element × List Byte)
  | b :: r =>
    match elements[b.toNat]? with
    | some e => some (e, r)
    | none => none
  | [] => none

/-- A host command: the code byte of R129, then its operands in the model's layout (log 10). -/
def decodeCommand (c : Byte) (ops : List Byte) : Option (Instr × List Byte) :=
  if c = 0x01#8 then do
    let (mode, r) ← readMode ops
    let (addr, r) ← readByte r
    let (second, r) ← readOptByte r
    let (attempts, r) ← readNat 8 r
    return (.connect mode addr second attempts, r)
  else if c = 0x02#8 then some (.disconnect, ops)
  else if c = 0x03#8 then some (.terminate, ops)
  else if c = 0x04#8 then do
    let (probe, r) ← readFlag ops
    let (m, r) ← readMessage r
    return (.enqueue m probe, r)
  else if c = 0x05#8 then do
    let (which, r) ← readWhich ops
    let (tp, r) ← readTiming r
    return (.setTiming which tp, r)
  else if c = 0x06#8 then some (.resetTiming, ops)
  else if c = 0x07#8 then do
    let (rate, r) ← readNat 4 ops
    return (.setBaud (BitVec.ofNat 32 rate), r)
  else if c = 0x08#8 then do
    let (e, r) ← readElement ops
    return (.readStatus e, r)
  else some (.unassigned c, ops)

/-- One item at the front of the bytes, by the place it stands at. -/
def decode (p : Port) (bs : List Byte) : Except DecodeError (Instr × List Byte) :=
  match bs with
  | [] => .error .noBytes
  | b :: r =>
    match p with
    | .header => .ok (decodeHeader b, r)
    | .service d => .ok (decodeSid d b, r)
    | .code => .ok (decodeCode b, r)
    | .sync => if b = Fixed.syncByte then .ok (.sync, r) else .error .notSync
    | .char5 =>
      match r with
      | [] => .error .badCharacter
      | hi :: r =>
        match decodeChar5 b hi with
        | some i => .ok (i, r)
        | none => .error .badCharacter
    | .key1 =>
      match decodeKey1 b with
      | some i => .ok (i, r)
      | none => .error .keyByte1Bit6
    | .key2 => .ok (.kb2 (b.getLsbD 7) (b.extractLsb' 0 7), r)
    | .complement => .ok (.kb2Complement b, r)
    | .addrComplement => .ok (.addrComplement b, r)
    | .wakeup => if b = 0b101#8 then .ok (.fastWakeup, r) else .error .badWakeup
    | .command =>
      match decodeCommand b r with
      | some x => .ok x
      | none => .error (.badOperand b)

/-! ### Encoding -/

/-- A flag operand (log 10). -/
def flagByte (b : Bool) : Byte := if b then 1#8 else 0#8

/-- `CONN_MODE` as an operand byte (log 10). -/
def ConnMode.byte : ConnMode → Byte
  | .slowInit => 0#8
  | .fastInit => 1#8

/-- An address mode as an operand byte (log 10). -/
def AddrMode.byte : AddrMode → Byte
  | .none => 0#8
  | .physical => 1#8
  | .functional => 2#8

/-- The operand `which` as a byte (log 10). -/
def WhichTiming.byte : WhichTiming → Byte
  | .default => 0#8
  | .current => 1#8
  | .limits => 2#8

/-- "none or byte" as operand bytes (log 10). -/
def optBytes : Option Byte → List Byte
  | none => [0#8]
  | some b => [1#8, b]

/-- A timing set as operand bytes (log 10). -/
def TimingSet.bytes (t : TimingSet) : List Byte :=
  natBytes 4 t.p1max ++ natBytes 4 t.p2min ++ natBytes 4 t.p2max
    ++ natBytes 4 t.p3min ++ natBytes 4 t.p3max ++ natBytes 4 t.p4min

/-- A message as operand bytes (log 10). -/
def Message.bytes (m : Message) : List Byte :=
  m.mode.byte :: m.dst :: m.src :: m.sid :: natBytes 8 m.maxRetries ++ natBytes 4 m.data.length ++ m.data

/-- The bytes of an item, from the same tables. -/
def encode : Instr → List Byte
  | .h1x => [0x00#8]
  | .h1i l => [0b00#2 ++ l]
  | .hrv l => [0b01#2 ++ l]
  | .h3px => [0x80#8]
  | .h3pi l => [0b10#2 ++ l]
  | .h3fx => [0xC0#8]
  | .h3fi l => [0b11#2 ++ l]
  | .startCommunicationReq _ => [0x81#8]
  | .startCommunicationPos _ => [0xC1#8]
  | .stopCommunicationReq _ => [0x82#8]
  | .stopCommunicationPos _ => [0xC2#8]
  | .testerPresentReq _ => [0x3E#8]
  | .testerPresentPos _ => [0x7E#8]
  | .startDiagnosticSessionReq _ => [0x10#8]
  | .startDiagnosticSessionPos _ => [0x50#8]
  | .readMemoryByAddressReq _ => [0x23#8]
  | .readMemoryByAddressPos _ => [0x63#8]
  | .writeMemoryByAddressReq _ => [0x3D#8]
  | .writeMemoryByAddressPos _ => [0x7D#8]
  | .securityAccessReq _ => [0x27#8]
  | .securityAccessPos _ => [0x67#8]
  | .requestDownloadReq _ => [0x34#8]
  | .requestDownloadPos _ => [0x74#8]
  | .requestUploadReq _ => [0x35#8]
  | .requestUploadPos _ => [0x75#8]
  | .transferDataReq _ => [0x36#8]
  | .transferDataPos _ => [0x76#8]
  | .requestTransferExitReq _ => [0x37#8]
  | .requestTransferExitPos _ => [0x77#8]
  | .readECUIdentificationReq _ => [0x1A#8]
  | .readECUIdentificationPos _ => [0x5A#8]
  | .readDataByLocalIdentifierReq _ => [0x21#8]
  | .readDataByLocalIdentifierPos _ => [0x61#8]
  | .readDataByCommonIdentifierReq _ => [0x22#8]
  | .readDataByCommonIdentifierPos _ => [0x62#8]
  | .readDiagnosticTroubleCodesByStatusReq _ => [0x18#8]
  | .readDiagnosticTroubleCodesByStatusPos _ => [0x58#8]
  | .clearDiagnosticInformationReq _ => [0x14#8]
  | .clearDiagnosticInformationPos _ => [0x54#8]
  | .vendorDataLoggingDefineReq _ => [0xB7#8]
  | .vendorDataLoggingDefinePos _ => [0xF7#8]
  | .vendorDataLoggingReadReq _ => [0xB8#8]
  | .vendorDataLoggingReadPos _ => [0xF8#8]
  | .negativeResponse _ => [0x7F#8]
  | .anyResponse b _ => [b]
  | .anyRequest b _ => [b]
  | .responsePending => [0x78#8]
  | .busyRepeatRequest => [0x21#8]
  | .otherCode c => [c]
  | .sync => [0x55#8]
  | .addr5 a => natBytes 2 (packBits (levels5 a))
  | .kb1 p t u h b x =>
    [BitVec.ofBool p ++ 1#1 ++ BitVec.ofBool t ++ BitVec.ofBool u ++ BitVec.ofBool h ++ BitVec.ofBool b ++ x]
  | .kb2 p x => [BitVec.ofBool p ++ x]
  | .kb2Complement n => [n]
  | .addrComplement n => [n]
  | .fastWakeup => [0b101#8]
  | .connect mode addr second attempts =>
    0x01#8 :: mode.byte :: addr :: optBytes second ++ natBytes 8 attempts
  | .disconnect => [0x02#8]
  | .terminate => [0x03#8]
  | .enqueue m probe => 0x04#8 :: flagByte probe :: m.bytes
  | .setTiming which tp => 0x05#8 :: which.byte :: tp.bytes
  | .resetTiming => [0x06#8]
  | .setBaud rate => 0x07#8 :: natBytes 4 rate.toNat
  | .readStatus e => [0x08#8, BitVec.ofNat 8 e.index]
  | .unassigned c => [c]

/-- The place an item stands at. -/
def Instr.port : Instr → Port
  | .h1x | .h1i _ | .hrv _ | .h3px | .h3pi _ | .h3fx | .h3fi _ => .header
  | .startCommunicationReq d => .service d
  | .startCommunicationPos d => .service d
  | .stopCommunicationReq d => .service d
  | .stopCommunicationPos d => .service d
  | .testerPresentReq d => .service d
  | .testerPresentPos d => .service d
  | .startDiagnosticSessionReq d => .service d
  | .startDiagnosticSessionPos d => .service d
  | .readMemoryByAddressReq d => .service d
  | .readMemoryByAddressPos d => .service d
  | .writeMemoryByAddressReq d => .service d
  | .writeMemoryByAddressPos d => .service d
  | .securityAccessReq d => .service d
  | .securityAccessPos d => .service d
  | .requestDownloadReq d => .service d
  | .requestDownloadPos d => .service d
  | .requestUploadReq d => .service d
  | .requestUploadPos d => .service d
  | .transferDataReq d => .service d
  | .transferDataPos d => .service d
  | .requestTransferExitReq d => .service d
  | .requestTransferExitPos d => .service d
  | .readECUIdentificationReq d => .service d
  | .readECUIdentificationPos d => .service d
  | .readDataByLocalIdentifierReq d => .service d
  | .readDataByLocalIdentifierPos d => .service d
  | .readDataByCommonIdentifierReq d => .service d
  | .readDataByCommonIdentifierPos d => .service d
  | .readDiagnosticTroubleCodesByStatusReq d => .service d
  | .readDiagnosticTroubleCodesByStatusPos d => .service d
  | .clearDiagnosticInformationReq d => .service d
  | .clearDiagnosticInformationPos d => .service d
  | .vendorDataLoggingDefineReq d => .service d
  | .vendorDataLoggingDefinePos d => .service d
  | .vendorDataLoggingReadReq d => .service d
  | .vendorDataLoggingReadPos d => .service d
  | .negativeResponse d => .service d
  | .anyResponse _ d => .service d
  | .anyRequest _ d => .service d
  | .responsePending | .busyRepeatRequest | .otherCode _ => .code
  | .sync => .sync
  | .addr5 _ => .char5
  | .kb1 _ _ _ _ _ _ => .key1
  | .kb2 _ _ => .key2
  | .kb2Complement _ => .complement
  | .addrComplement _ => .addrComplement
  | .fastWakeup => .wakeup
  | .connect _ _ _ _ | .disconnect | .terminate | .enqueue _ _ | .setTiming _ _ | .resetTiming => .command
  | .setBaud _ | .readStatus _ | .unassigned _ => .command

/-- The service id and the direction of a row of format SID; none for the rows of the other formats. -/
def Instr.service : Instr → Option (Byte × Dir)
  | .startCommunicationReq d => some (0x81#8, d)
  | .startCommunicationPos d => some (0xC1#8, d)
  | .stopCommunicationReq d => some (0x82#8, d)
  | .stopCommunicationPos d => some (0xC2#8, d)
  | .testerPresentReq d => some (0x3E#8, d)
  | .testerPresentPos d => some (0x7E#8, d)
  | .startDiagnosticSessionReq d => some (0x10#8, d)
  | .startDiagnosticSessionPos d => some (0x50#8, d)
  | .readMemoryByAddressReq d => some (0x23#8, d)
  | .readMemoryByAddressPos d => some (0x63#8, d)
  | .writeMemoryByAddressReq d => some (0x3D#8, d)
  | .writeMemoryByAddressPos d => some (0x7D#8, d)
  | .securityAccessReq d => some (0x27#8, d)
  | .securityAccessPos d => some (0x67#8, d)
  | .requestDownloadReq d => some (0x34#8, d)
  | .requestDownloadPos d => some (0x74#8, d)
  | .requestUploadReq d => some (0x35#8, d)
  | .requestUploadPos d => some (0x75#8, d)
  | .transferDataReq d => some (0x36#8, d)
  | .transferDataPos d => some (0x76#8, d)
  | .requestTransferExitReq d => some (0x37#8, d)
  | .requestTransferExitPos d => some (0x77#8, d)
  | .readECUIdentificationReq d => some (0x1A#8, d)
  | .readECUIdentificationPos d => some (0x5A#8, d)
  | .readDataByLocalIdentifierReq d => some (0x21#8, d)
  | .readDataByLocalIdentifierPos d => some (0x61#8, d)
  | .readDataByCommonIdentifierReq d => some (0x22#8, d)
  | .readDataByCommonIdentifierPos d => some (0x62#8, d)
  | .readDiagnosticTroubleCodesByStatusReq d => some (0x18#8, d)
  | .readDiagnosticTroubleCodesByStatusPos d => some (0x58#8, d)
  | .clearDiagnosticInformationReq d => some (0x14#8, d)
  | .clearDiagnosticInformationPos d => some (0x54#8, d)
  | .vendorDataLoggingDefineReq d => some (0xB7#8, d)
  | .vendorDataLoggingDefinePos d => some (0xF7#8, d)
  | .vendorDataLoggingReadReq d => some (0xB8#8, d)
  | .vendorDataLoggingReadPos d => some (0xF8#8, d)
  | .negativeResponse d => some (0x7F#8, d)
  | .anyResponse b d => some (b, d)
  | .anyRequest b d => some (b, d)
  | .h1x | .h1i _ | .hrv _ | .h3px | .h3pi _ | .h3fx | .h3fi _ => none
  | .responsePending | .busyRepeatRequest | .otherCode _ => none
  | .sync | .addr5 _ | .kb1 _ _ _ _ _ _ | .kb2 _ _ | .kb2Complement _ | .addrComplement _ | .fastWakeup => none
  | .connect _ _ _ _ | .disconnect | .terminate | .enqueue _ _ | .setTiming _ _ | .resetTiming => none
  | .setBaud _ | .readStatus _ | .unassigned _ => none

/-! ### The host's question: one word of the table, with no place given -/

/-- The place a bare first byte is read at: the rows with an exact pattern in the table's order (a request's id as one to
send, a response's as one received), then the field patterns of format FMT (R131, log 18). -/
def tablePort (b : Byte) : Port :=
  if namedSids.contains b then .service (if b.getLsbD 6 then .rx else .tx)
  else if b = 0x78#8 then .code
  else if b = 0x55#8 then .sync
  else if 0x01#8 ≤ b && b ≤ 0x08#8 then .command
  else .header

/-- The bytes of a table word: the `nbits` bits of `w` in whole bytes, first the least significant, then operand bytes
of zero, as many as the longest layout reads before a variable part. -/
def tableBytes (nbits w : Nat) : List Byte :=
  natBytes ((nbits + 7) / 8) w ++ List.replicate 32 0#8

/-- The instruction the decoder reads from the word `w` of `nbits` bits; two bytes are the 5-baud character when they
are one (the table's only item of more than 8 bits). -/
def decodeTableWord (nbits w : Nat) : Option Instr :=
  let bs := tableBytes nbits w
  let one :=
    match decode (tablePort (bs.headD 0#8)) bs with
    | .ok (i, _) => some i
    | .error _ => none
  if 8 < nbits then
    match decode .char5 bs with
    | .ok (i, _) => some i
    | .error _ => one
  else one

end Sys2Proof
end

