-- ==== Sys2Proof/Machine/Enforce.lean ====
section
/-! DEFINITION. `ENFORCE` (41_timing_engine.md R186): the one function every write of a timing set passes through (R187). -/

namespace Sys2Proof.Machine

/-- R186: the three assignments in order, each seeing the ones before. Naturals, so nothing overflows. -/
def enforce (tp : TimingSet) : TimingSet :=
  let tp := { tp with p2max := max tp.p2max (tp.p2min + Fixed.margin) }
  let tp := { tp with p3min := max tp.p3min tp.p4min }
  { tp with p3max := max tp.p3max (tp.p3min + Fixed.margin) }

end Sys2Proof.Machine
end

