-- ==== Sys2Proof/Machine/State.lean ====
section
/-! DEFINITION. The state of the machine as plain data: every element of 10_state.md R20 under its own name, the
environment's part (00_scope.md R6: HOST, LINE, CLK), the instance's parameters, and the model's own position inside a
phase; the reasons a step can stop; the state after reset (R51, 70_reset_and_hazards.md R370). -/

namespace Sys2Proof.Machine

/-- `CONN_STATE` (R22). -/
inductive ConnState where
  | disconnected | connectionPending | connected | disconnectionPending | communicationTerminated
deriving DecidableEq, Repr

/-- A stopwatch (R30); `elapsed` in microseconds. -/
structure Stopwatch where
  running : Bool
  elapsed : Nat
deriving DecidableEq, Repr

/-- An entry of `TXQ` (R38, R43, R44). -/
structure Entry where
  msg : Message
  attempts : Nat
  probe : Bool
  internal : Bool
deriving DecidableEq, Repr

/-- `PHASE` (R45). -/
inductive Phase where
  | a | b | c | d | e | sleep
deriving DecidableEq, Repr

/-- `HS_STEP` (R46). -/
inductive HsStep where
  | idle | s0 | s1 | s2 | s3 | s4 | s5 | s6 | s7 | s8 | sLegacy | f0 | f1 | f2 | f3 | f4 | f5
deriving DecidableEq, Repr

/-- `HS_KIND` (R46). -/
inductive HsKind where
  | none | kwp2000 | legacy
deriving DecidableEq, Repr

/-- `LOCK_HELD` (R48). -/
inductive Holder where
  | none | seq | host
deriving DecidableEq, Repr

/-- The handshake causes H1 to H9 (60_exceptions.md R332). -/
inductive HsCause where
  | transport | noSync | noKeyBytes | badKeyBytes | complementEcho | addressComplement | legacyProtocol | queueFull
  | noResponse
deriving DecidableEq, Repr

/-- The causes F1 to F5 of a forced disconnect (R332). -/
inductive ForcedCause where
  | p3Timeout | unsolicited | unanswered | startCommRejected | stopCommRejected
deriving DecidableEq, Repr

/-- The causes X1 to X6 of an entry to Disconnected (R332). No register and no event records them. -/
inductive EntryCause where
  | handshakeFailure | forced | cleanDisconnect | cleanTimeout | hostDisconnect | terminated
deriving DecidableEq, Repr

/-- The operation of a `TransportError` (R331). -/
inductive LineOp where
  | read | write
deriving DecidableEq, Repr

/-- The kinds of a `FramingError` (R331). -/
inductive FrameKind where
  | invalidChecksum | noData | requestedTooMuchData
deriving DecidableEq, Repr

/-- The timers of a `TimingViolation` (R331). -/
inductive Timer where
  | p1 | p2 | p3
deriving DecidableEq, Repr

/-- The outcome of a finalised message (43_message_interface.md R288). -/
inductive MsgOutcome where
  | success | failed
deriving DecidableEq, Repr

/-- The reasons of a refused command (44_host_commands.md R320, complete list). -/
inductive RefuseReason where
  | wrongState | badOperand | notSerializable | queueFull | unknownCommand
deriving DecidableEq, Repr

/-- The event kinds of R331, in the order of their codes 0x01 to 0x13. -/
inductive Event where
  | connStateChanged (old new : ConnState)
  | handshakeFailed (cause : HsCause)
  | forcedDisconnect (cause : ForcedCause)
  | transportError (op : LineOp) (n : Nat)
  | bufferOverflow (n : Nat)
  | framingError (kind : FrameKind)
  | garbageDiscarded (n : Nat)
  | garbageFlushed (n : Nat)
  | timingViolation (t : Timer)
  | echoMismatch (expected : List Byte) (actual : Byte)
  | messageIgnored (m : Message)
  | unsolicitedResponse (m : Message)
  | messageReceived (m req : Message)
  | messageFinished (msg : Message) (outcome : MsgOutcome) (attempts : Nat)
  | messageSent (msg : Message) (attempt : Nat)
  | messageUnanswered (msg : Message) (attempts : Nat)
  | responsePendingSeen (m : Message)
  | busySeen (m : Message)
  | commandRefused (code : Byte) (reason : RefuseReason)
deriving DecidableEq, Repr

/-- The value READ_STATUS answers, by the type of the element (R319). -/
inductive StatusValue where
  | connState (v : ConnState)
  | connMode (v : ConnMode)
  | number (v : Nat)
  | byte (v : Byte)
  | optByte (v : Option Byte)
  | bytePair (v w : Byte)
  | flag (v : Bool)
  | baud (v : BitVec 32)
  | timing (v : TimingSet)
  | stopwatch (v : Stopwatch)
  | bytes (v : List Byte)
  | entries (v : List Entry)
  | phase (v : Phase)
  | hsStep (v : HsStep)
  | hsKind (v : HsKind)
  | holder (v : Holder)
  | events (v : List Event)
deriving DecidableEq, Repr

/-- The result of a host command (R310, column "result"). -/
inductive Reply where
  | ok
  | refused (reason : RefuseReason)
  | value (v : StatusValue)
deriving DecidableEq, Repr

/-- A call of the line port (20_memory.md R83, R87 to R89). -/
inductive LineCall where
  /-- `LineWrite(bytes)`, which returned `n`. -/
  | write (bytes : List Byte) (n : Nat)
  | setBreak (b : Bool)
  | setBaud (r : BitVec 32)
  | purge (rx tx : Bool)
deriving DecidableEq, Repr

/-- A line call and the instant it was made. -/
structure LineRec where
  time : Nat
  call : LineCall
deriving DecidableEq, Repr

/-- How the line answers the next `LineRead` (R82, log 8): as its bytes and its timeout say; at once with what is there
("0 ≤ |r| ≤ max"); or as a transport failure. -/
inductive ReadAns where
  | normal | early | fail
deriving DecidableEq, Repr

/-- A move of the schedule (log 1): whose micro-step comes next (20_memory.md R94). -/
inductive Move where
  /-- `SEQ` makes its next micro-step, or spins while it waits. -/
  | seq
  /-- `CLK`: `tick(dt)` (41_timing_engine.md R181). -/
  | tick (dt : Nat)
  /-- `LINE` has received these bytes. -/
  | line (bytes : List Byte)
  /-- `LINE` will answer the next read so. -/
  | answer (a : ReadAns)
  /-- `LINE` will take at most `n` bytes of the next write. -/
  | capWrite (n : Nat)
  /-- `HOST` issues the command with this code byte and these operand bytes. -/
  | host (code : Byte) (operands : List Byte)
deriving DecidableEq, Repr

/-- The environment: the inputs of R20's last sentence and the outputs that are no element of R20. -/
structure Env where
  /-- The time input, microseconds (R11). -/
  now : Nat
  /-- The moves still to come; with none left `SEQ` moves and the clock runs to the instant it awaits (log 2). -/
  sched : List Move
  /-- Bytes received by the line and not yet delivered, oldest first (R82). -/
  lineRx : List Byte
  readAns : ReadAns
  /-- How many bytes the next `LineWrite` takes at most; none = all (R83). -/
  writeCap : Option Nat
  /-- The line calls made, oldest first (log 9). -/
  lineLog : List LineRec
  /-- The results of the host commands, oldest first (log 9). -/
  replies : List Reply
deriving DecidableEq, Repr

/-- Where inside the phase or the handshake step the sequencer stands (R251: "Each numbered rule below is a sequence of
atomic micro-steps"; log 4). -/
inductive Micro where
  /-- At the first micro-step of the phase or handshake step. -/
  | start
  /-- Phase A done: the state test of R250 is next. -/
  | test
  /-- In `wait_until(t)`. -/
  | wait (t : Nat)
  /-- Step S1 with `k` slots begun, in `wait_until(t)` (R213). -/
  | slot (k t : Nat)
  /-- In `LineRead(n, ·)`, which ends at `t` at the latest. -/
  | read (n t : Nat)
  /-- In the second read of S3 or the last-chance read of S4 (R218, R221). -/
  | reread (n t : Nat)
  /-- Step S5, at key byte 1. -/
  | key1
  /-- Step S5, at key byte 2. -/
  | key2
  /-- Phase C, in the flush at offset `k` (R264). -/
  | flush (k : Nat)
  /-- Phase C, at the service id of the frame just received (R270). -/
  | dispatch
  /-- Phase C, at the response code of a matched negative response (R275). -/
  | code
  /-- About to transmit the head entry (R286). -/
  | send
  /-- Transmitting with `TX_PACE_P4`, `n` bytes written, in `wait_until(t)` (R385). -/
  | pace (n t : Nat)
  /-- Phase D, in the probe read of `check_P1` (R188, R189). -/
  | probe1 (t : Nat)
  /-- Phase D, at `check_P2` (R190). -/
  | checkP2
  /-- Phase D, at `check_P3` (R192). -/
  | checkP3
  /-- Phase D, in the probe read of `check_P3` (R192, R189). -/
  | probe3 (t : Nat)
  /-- Phase D, at `check_DISC` (R194). -/
  | checkDisc
deriving DecidableEq, Repr

/-- The whole state. -/
structure State where
  /-- `CONN_STATE` (R22). -/
  connState : ConnState
  /-- `CONN_MODE` (R23). -/
  connMode : ConnMode
  /-- `CONN_ATTEMPTS_LEFT` (R23). -/
  attemptsLeft : Nat
  /-- `INIT_ADDR` (R24). -/
  initAddr : Byte
  /-- `SECOND_ADDR` (R24). -/
  secondAddr : Option Byte
  /-- `COMM_ADDR` (R24). -/
  commAddr : Byte
  /-- `KEY_BYTES`, first byte (R25). -/
  keyByte1 : Byte
  /-- `KEY_BYTES`, second byte (R25). -/
  keyByte2 : Byte
  /-- `KEY_VALID` (R25). -/
  keyValid : Bool
  /-- `BAUD` (R26). -/
  baud : BitVec 32
  /-- `BREAK_OUT` (R49). -/
  breakOut : Bool
  /-- `TP_DEFAULT` (R28). -/
  tpDefault : TimingSet
  /-- `TP_CURRENT` (R28). -/
  tpCurrent : TimingSet
  /-- `TP_LIMITS` (R28). -/
  tpLimits : TimingSet
  /-- `P2MAX_EFF`, milliseconds (R29). -/
  p2maxEff : Nat
  /-- `SW_P1` (R31). -/
  swP1 : Stopwatch
  /-- `SW_P2` (R31). -/
  swP2 : Stopwatch
  /-- `SW_P3` (R31). -/
  swP3 : Stopwatch
  /-- `SW_DISC` (R31). -/
  swDisc : Stopwatch
  /-- `RXBUF`, oldest byte first (R32). -/
  rxbuf : List Byte
  /-- `RX_DIRTY` (R33). -/
  rxDirty : Bool
  /-- `P1_FLUSH_PENDING` (R34). -/
  p1Flush : Bool
  /-- `ECHO_FIFO`, oldest first (R35). -/
  echoFifo : List Byte
  /-- `IGNORE_CNT` (R36). -/
  ignoreCnt : Nat
  /-- `FOUND_ECHO` (R37). -/
  foundEcho : Bool
  /-- `TXQ`, head first (R38). -/
  txq : List Entry
  /-- `EXPECTING_RESP` (R39). -/
  expecting : Bool
  /-- `RESP_COUNT` (R40). -/
  respCount : Nat
  /-- `UNSOLICITED_CNT` (R41). -/
  unsolicited : Nat
  /-- `UNANSWERED_CNT` (R42). -/
  unanswered : Nat
  /-- `PHASE` (R45). -/
  phase : Phase
  /-- `HS_STEP` (R46). -/
  hsStep : HsStep
  /-- `HS_ADDR` (R46). -/
  hsAddr : Byte
  /-- `HS_T0` (R46). -/
  hsT0 : Nat
  /-- `HS_KB` (R46). -/
  hsKb : List Byte
  /-- `HS_KIND` (R46). -/
  hsKind : HsKind
  /-- `HS_CHAINED` (R46). -/
  hsChained : Bool
  /-- `LOCK_HELD` (R48). -/
  lock : Holder
  /-- `EVENTS`, oldest first (R47). -/
  events : List Event
  /-- The instance's parameters (R8); no step writes them. -/
  cfg : Config
  /-- The model's position inside a phase or handshake step (log 4). -/
  micro : Micro
  /-- The message `parse_frame` returned last, R21's "transiently as the result of parse_frame" (log 5). -/
  frame : Message
  /-- The environment (log 1). -/
  env : Env
deriving DecidableEq, Repr

/-- Why a step stops with a fault. No reachable state raises one; both are safe (the model stops where the spec gives
nothing to go on with). -/
inductive Fault where
  /-- An operation that takes or reads `TXQ[0]` meets an empty queue: `txq_pop` is "defined only when |TXQ| ≥ 1"
  (20_memory.md R92). Raised by the transmission, the finalisation, the unanswered count and the negative responses. -/
  | queueEmpty
  /-- The sequencer stands at a position no rule gives (log 12). Raised by the sequencer and by FAST_WAKEUP outside the
  steps F1 to F3. -/
  | controlPoint
deriving DecidableEq, Repr

/-- Why a step is refused. -/
inductive Refusal where
  /-- The instruction `mnemonic` has no meaning in the model yet. Raised by `exec` alone; safe. -/
  | notModelled (mnemonic : String)
  /-- The head message is not serializable: 40_frame_codec.md R155, "a model makes `serialize` partial or
  total-with-refusal, never truncating". Raised by the transmission; no reachable state raises it; safe. -/
  | notSerializable
deriving DecidableEq, Repr

/-- The environment at reset (log 6, 7, 8, 9). -/
def Env.reset : Env where
  now := 0
  sched := []
  lineRx := []
  readAns := .normal
  writeCap := none
  lineLog := []
  replies := []

/-- The state right after reset of the instance with parameters `c` (R51, R370). -/
def State.resetWith (c : Config) : State where
  connState := .disconnected
  connMode := .slowInit
  attemptsLeft := 0
  initAddr := 0#8
  secondAddr := none
  commAddr := 0#8
  keyByte1 := 0#8
  keyByte2 := 0#8
  keyValid := false
  baud := 10400#32
  breakOut := false
  tpDefault := enforce c.tpDefaultReset
  tpCurrent := enforce c.tpDefaultReset
  tpLimits := enforce c.tpLimitsReset
  p2maxEff := (enforce c.tpDefaultReset).p2max
  swP1 := ⟨false, 0⟩
  swP2 := ⟨false, 0⟩
  swP3 := ⟨false, 0⟩
  swDisc := ⟨false, 0⟩
  rxbuf := []
  rxDirty := false
  p1Flush := false
  echoFifo := []
  ignoreCnt := 0
  foundEcho := false
  txq := []
  expecting := false
  respCount := 0
  unsolicited := 0
  unanswered := 0
  phase := .a
  hsStep := .idle
  hsAddr := 0#8
  hsT0 := 0
  hsKb := []
  hsKind := .none
  hsChained := false
  lock := .none
  events := []
  cfg := c
  micro := .start
  frame := ⟨.none, 0#8, 0#8, 0#8, [], 0⟩
  env := Env.reset

/-- The state right after reset. -/
def State.reset : State := State.resetWith Config.default

end Sys2Proof.Machine
end

