-- ==== Sys2Proof/Machine/Operands.lean ====
section
/-! DEFINITION. The operand forms: the header forms of a frame (30_encoding.md R111 to R115), the messages the block
builds by itself, the complements (R127) and the bit period of the 5-baud character (42_handshake.md R213). -/

namespace Sys2Proof.Machine

/-- The address mode codes of `FMT[7:6]` (R112). -/
inductive AddrCode where
  | none | reserved | physical | functional
deriving DecidableEq, Repr

/-- A header form (R113): the address mode code and the inline length, 0 for the forms with a length byte. -/
structure Form where
  code : AddrCode
  il : BitVec 6
deriving DecidableEq, Repr

/-- The two bits of an address mode code (R112). -/
def AddrCode.bits : AddrCode → BitVec 2
  | .none => 0b00#2
  | .reserved => 0b01#2
  | .physical => 0b10#2
  | .functional => 0b11#2

/-- The code of two bits (R112). -/
def AddrCode.ofBits (b : BitVec 2) : AddrCode :=
  if b = 0b00#2 then .none else if b = 0b01#2 then .reserved else if b = 0b10#2 then .physical else .functional

/-- The code of a message's mode (R112); `reserved` is never produced (R120). -/
def AddrCode.ofMode : AddrMode → AddrCode
  | .none => .none
  | .physical => .physical
  | .functional => .functional

/-- The mode a code stands for; a reserved code gives no message (R120), so its value is never used. -/
def AddrCode.mode : AddrCode → AddrMode
  | .none => .none
  | .reserved => .none
  | .physical => .physical
  | .functional => .functional

/-- `A` of R110: 1 when addresses are present. -/
def AddrCode.addrs : AddrCode → Nat
  | .none => 0
  | .reserved => 0
  | .physical => 1
  | .functional => 1

/-- The form a format byte selects (R111). -/
def Form.ofByte (b : Byte) : Form := ⟨AddrCode.ofBits (b.extractLsb' 6 2), b.extractLsb' 0 6⟩

/-- The format byte of a form (R111). -/
def Form.byte (f : Form) : Byte := f.code.bits ++ f.il

/-- The form the serializer chooses for a wire length `l` (R115): inline up to 63, else a length byte. -/
def Form.forLength (m : AddrMode) (l : Nat) : Form :=
  ⟨AddrCode.ofMode m, if l ≤ 63 then BitVec.ofNat 6 l else 0#6⟩

/-- A request the block builds itself: no data, no retries, zero addresses in mode None (R21, R235, R285, R313). -/
def ownRequest (mode : AddrMode) (dst src sid : Byte) : Message :=
  if mode = .none then ⟨.none, 0#8, 0#8, sid, [], 0⟩ else ⟨mode, src, dst, sid, [], 0⟩

/-- The queue entry of a request the block builds itself (R44). -/
def ownEntry (m : Message) : Entry := ⟨m, 0, false, true⟩

/-- The StartCommunication request of step F5 (R235). -/
def startCommRequest (s : State) : Message :=
  ownRequest s.cfg.startcommMode s.hsAddr s.cfg.testerAddr s.cfg.sidStartComm

/-- The keep-alive (R285). -/
def keepAliveRequest (s : State) : Message :=
  ownRequest s.cfg.keepaliveMode s.commAddr s.cfg.testerAddr s.cfg.sidTesterPresent

/-- The StopCommunication of DISCONNECT (R313). -/
def stopCommRequest (s : State) : Message :=
  ownRequest s.cfg.keepaliveMode s.commAddr s.cfg.testerAddr s.cfg.sidStopComm

/-- R127: `~b = 0xFF - b`. -/
def complement (b : Byte) : Byte := 0xFF#8 - b

/-- Key byte 1 from the fields of its bit text (R126); bit 6 is always 1. -/
def kb1Byte (p t u h b : Bool) (x : BitVec 2) : Byte :=
  BitVec.ofBool p ++ 1#1 ++ BitVec.ofBool t ++ BitVec.ofBool u ++ BitVec.ofBool h ++ BitVec.ofBool b ++ x

/-- Key byte 2 from its parity bit and its seven information bits (R126). -/
def kb2Byte (p : Bool) (x : BitVec 7) : Byte := BitVec.ofBool p ++ x

/-- The positive response of a request's service id (R121). -/
def positiveOf (sid : Byte) : Byte := sid ||| Fixed.responseBit

/-- `k & 0x7F`, the stored form of a key byte (R25). -/
def maskKey (b : Byte) : Byte := b &&& Fixed.keyByteMask

/-- `ms(p)`: milliseconds to microseconds (00_scope.md R10). -/
def ms (p : Nat) : Nat := 1000 * p

/-- `Tbit = 200000 + SLOW_OFFSET` (R213). -/
def tbit (c : Config) : Nat := (Fixed.slowBit + c.slowOffset).toNat

end Sys2Proof.Machine
end

