-- ==== Sys2Proof/Machine/Ops.lean ====
section
/-! DEFINITION. The named operations over the state: events, clock and stopwatches (41_timing_engine.md R181, R182), the
line port (20_memory.md R82 to R89), the buffer primitives (R84, R85, R92), the sequencer's position, and the entry to
Disconnected (60_exceptions.md R345, R346), which plays the part of taking an exception (R330). There is no return from
it beside it: "nothing was saved", the way back is a new CONNECT and a new handshake (R347). -/

namespace Sys2Proof.Machine

/-- The outcome of a micro-step. -/
abbrev Result := Host.Outcome State Fault Refusal

/-! ### Outputs and position -/

/-- `raise <Event>` (00_scope.md R10): appends to `EVENTS` and changes nothing else. -/
def State.raise (s : State) (e : Event) : State := { s with events := s.events ++ [e] }

/-- The result of a host command (R310), appended to the replies; with it the command, which stands at the front of the
schedule, is done (log 1). -/
def State.answer (s : State) (r : Reply) : State :=
  { s with env := { s.env with sched := s.env.sched.tail, replies := s.env.replies ++ [r] } }

/-- The sequencer goes on at another position of the same phase or step. -/
def State.goto (s : State) (m : Micro) : State := { s with micro := m }

/-- `PHASE <- p` (R45): the phase begins. -/
def State.toPhase (s : State) (p : Phase) : State := { s with phase := p, micro := .start }

/-- `HS_STEP <- h` (R46): the step begins. -/
def State.toStep (s : State) (h : HsStep) : State := { s with hsStep := h, micro := .start }

/-- Phase SLEEP is entered (43_message_interface.md R250): the lock is freed (20_memory.md R93) and the sleep begins. -/
def State.toSleep (s : State) : State :=
  { s with phase := .sleep, lock := .none, micro := .wait (s.env.now + s.cfg.pollSleep) }

/-! ### Clock and stopwatches -/

/-- `sw_start` (R182). -/
def Stopwatch.start (w : Stopwatch) : Stopwatch := { w with running := true }
/-- `sw_stop` (R182): the count is held. -/
def Stopwatch.stop (w : Stopwatch) : Stopwatch := { w with running := false }
/-- `sw_reset` (R182). -/
def Stopwatch.reset (_ : Stopwatch) : Stopwatch := ⟨false, 0⟩
/-- `sw_restart` (R182). -/
def Stopwatch.restart (_ : Stopwatch) : Stopwatch := ⟨true, 0⟩
/-- The effect of `tick(dt)` on a stopwatch (R181). -/
def Stopwatch.advance (w : Stopwatch) (dt : Nat) : Stopwatch :=
  if w.running then { w with elapsed := w.elapsed + dt } else w

/-- `tick(dt)` (R181). -/
def State.tick (s : State) (dt : Nat) : State :=
  { s with
    swP1 := s.swP1.advance dt
    swP2 := s.swP2.advance dt
    swP3 := s.swP3.advance dt
    swDisc := s.swDisc.advance dt
    env := { s.env with now := s.env.now + dt } }

/-! ### The line port -/

/-- A line call is recorded with its instant (log 9). -/
def State.logLine (s : State) (c : LineCall) : State :=
  { s with env := { s.env with lineLog := s.env.lineLog ++ [⟨s.env.now, c⟩] } }

/-- `LineSetBreak(b)` (R87). -/
def State.lineSetBreak (s : State) (b : Bool) : State := { s.logLine (.setBreak b) with breakOut := b }

/-- `LineSetBaud(r)` (R88). -/
def State.lineSetBaud (s : State) (r : BitVec 32) : State := { s.logLine (.setBaud r) with baud := r }

/-- `LinePurge(rx, tx)` (R89): the bytes waiting are discarded; the transmit side holds none (log 19). -/
def State.linePurge (s : State) (rx tx : Bool) : State :=
  let s := s.logLine (.purge rx tx)
  if rx then { s with env := { s.env with lineRx := [] } } else s

/-- `n` of `LineWrite(bytes)` (R83): all of the bytes, or as many as the line takes. -/
def State.writeCount (s : State) (bytes : List Byte) : Nat :=
  match s.env.writeCap with
  | none => bytes.length
  | some c => min c bytes.length

/-- `LineWrite(bytes)` (R83). -/
def State.lineWrite (s : State) (bytes : List Byte) : State :=
  let t := s.logLine (.write bytes (s.writeCount bytes))
  { t with env := { t.env with writeCap := none } }

/-- `LineAvail()` (R86). -/
def State.lineAvail (s : State) : Nat := s.env.lineRx.length

/-- The next `LineRead` is a transport failure (R82). -/
def State.readFails (s : State) : Bool := s.env.readAns == .fail

/-- `LineRead(n, ·)`, whose deadline is `t`, returns now (R82): the bytes are there, the timeout has passed, or the line
answers early or with a failure. -/
def State.readReady (s : State) (n t : Nat) : Bool :=
  s.env.readAns != .normal || n ≤ s.env.lineRx.length || t ≤ s.env.now

/-- The bytes `LineRead(n, ·)` returns (R82). -/
def State.readBytes (s : State) (n : Nat) : List Byte := if s.readFails then [] else s.env.lineRx.take n

/-- The state after `LineRead(n, ·)` has returned (R82): its bytes are removed from the line, which a failed read leaves
as it was (log 8); a failure raises `TransportError` (R333). -/
def State.readDone (s : State) (n : Nat) : State :=
  if s.readFails then ({ s with env := { s.env with readAns := .normal } } : State).raise (.transportError .read 0)
  else { s with env := { s.env with readAns := .normal, lineRx := s.env.lineRx.drop n } }

/-! ### Buffer primitives -/

/-- `rx_append` (R84). -/
def State.rxAppend (s : State) (bytes : List Byte) : State :=
  let k := min bytes.length (s.cfg.rxbufCap - s.rxbuf.length)
  let t := { s with rxbuf := s.rxbuf ++ bytes.take k, rxDirty := s.rxDirty || decide (1 ≤ k) }
  if k < bytes.length then t.raise (.bufferOverflow (bytes.length - k)) else t

/-- `rx_drop_front(n)` (R85). -/
def State.rxDropFront (s : State) (n : Nat) : State := { s with rxbuf := s.rxbuf.drop n }

/-- `txq_push(e)` (R92); none = full. -/
def State.txqPush (s : State) (e : Entry) : Option State :=
  if s.txq.length < s.cfg.txqCap then some { s with txq := s.txq ++ [e] } else none

/-- `txq_push_head(e)` (R92); none = full. -/
def State.txqPushHead (s : State) (e : Entry) : Option State :=
  if s.txq.length < s.cfg.txqCap then some { s with txq := e :: s.txq } else none

/-! ### Disconnect entry -/

/-- The events of the queued messages that fail (R346): head first, none for an internal entry. -/
def failEvents : List Entry → List Event
  | [] => []
  | e :: es => if e.internal then failEvents es else .messageFinished e.msg .failed e.attempts :: failEvents es

/-- `enter_disconnected(cause)` (R346): "the one way into state Disconnected". The cause is recorded nowhere. -/
def State.enterDisconnected (s : State) (_cause : EntryCause) : State :=
  if s.connState = .disconnected then s
  else
    { s with
      events := s.events ++ failEvents s.txq ++ [.connStateChanged s.connState .disconnected]
      txq := []
      rxbuf := []
      rxDirty := false
      p1Flush := false
      echoFifo := []
      ignoreCnt := 0
      foundEcho := false
      expecting := false
      respCount := 0
      unsolicited := 0
      unanswered := 0
      swP1 := s.swP1.reset
      swP2 := s.swP2.reset
      swP3 := s.swP3.reset
      swDisc := s.swDisc.reset
      keyByte1 := 0#8
      keyByte2 := 0#8
      keyValid := false
      tpCurrent := s.tpDefault
      p2maxEff := s.tpDefault.p2max
      connState := .disconnected }

/-- `force_disconnect(cause)` (R345). -/
def State.forceDisconnect (s : State) (cause : ForcedCause) : State :=
  (s.raise (.forcedDisconnect cause)).enterDisconnected .forced

/-- `hs_fail(cause)` (42_handshake.md R237); phase A is then over. -/
def State.hsFail (s : State) (cause : HsCause) : State :=
  { (((s.lineSetBreak false).raise (.handshakeFailed cause)).enterDisconnected .handshakeFailure) with
    hsStep := .idle, micro := .test }

end Sys2Proof.Machine
end

