-- ==== Sys2Proof/Machine/Flags.lean ====
section
/-! DEFINITION. The block has no arithmetic condition codes (10_state.md R50). What its rules test instead: the parity and
validity of key bytes (42_handshake.md R223, R224), the acceptance of a message (43_message_interface.md R271), the
expiry tests (41_timing_engine.md R184, R188, R190 to R192, R194) and the transmit gate (R283). -/

namespace Sys2Proof.Machine

/-- `odd_ones(b)` (R223). -/
def oddOnes (b : Byte) : Bool := ones (bits8 b) % 2 == 1

/-- `kb1_valid(b)` (R223); `parity` is `CHECK_KB_PARITY`. -/
def kb1Valid (parity : Bool) (b : Byte) : Bool :=
  (!parity || oddOnes b) && b.getLsbD 6 && !(b.getLsbD 5 && b.getLsbD 4) && (b.getLsbD 3 || b.getLsbD 2)

/-- `kb2_valid(b)` (R224). -/
def kb2Valid (parity : Bool) (b : Byte) : Bool := !parity || oddOnes b

/-- `is_response(s)` (R121): bit 6. -/
def isResponse (sid : Byte) : Bool := sid.getLsbD 6

/-- The acceptance test (R271). -/
def accepted (c : Config) (m : Message) : Bool :=
  (m.mode == .none || (m.mode == .physical && m.dst == c.testerAddr)) && isResponse m.sid

/-- The outstanding request (R39): the head entry while `EXPECTING_RESP` holds. -/
def State.outstanding (s : State) : Option Entry := if s.expecting then s.txq.head? else none

/-- A maximum test (R184): strict, and false on a stopped stopwatch. -/
def Stopwatch.over (w : Stopwatch) (limit : Nat) : Bool := w.running && decide (limit < w.elapsed)

/-- The test of `check_P1` (R188). -/
def State.p1Over (s : State) : Bool := s.swP1.over (ms s.tpCurrent.p1max)

/-- The test of `check_P2` (R190). -/
def State.p2Over (s : State) : Bool := !s.swP1.running && s.swP2.over (Fixed.p2Safety * ms s.p2maxEff)

/-- The test of `check_P3` (R192). -/
def State.p3Over (s : State) : Bool := s.connState == .connected && s.swP3.over (ms s.tpCurrent.p3max)

/-- The test of `check_DISC` (R194). -/
def State.discOver (s : State) : Bool :=
  s.connState == .disconnectionPending && s.swDisc.over (ms Fixed.discTimeout)

/-- `p3_min_ok()` (R191). -/
def State.p3MinOk (s : State) : Bool := s.swP3.running && decide (ms s.tpCurrent.p3min ≤ s.swP3.elapsed)

/-- `can_tx` (R283). -/
def State.canTx (s : State) : Bool :=
  s.echoFifo.isEmpty && !s.expecting && s.p3MinOk
    && (s.connState == .connected || s.connState == .disconnectionPending)

/-- The keep-alive's condition (R285). -/
def State.keepAliveDue (s : State) : Bool :=
  s.cfg.keepaliveEn && s.connState == .connected && s.txq.isEmpty
    && decide (ms s.tpCurrent.p3max < 2 * s.swP3.elapsed)

/-- The state test after phase A (R250). -/
def State.iterates (s : State) : Bool :=
  s.connState == .connectionPending || s.connState == .connected || s.connState == .disconnectionPending

end Sys2Proof.Machine
end

