-- ==== Sys2Proof/Machine/Handshake.lean ====
section
/-! DEFINITION. The connection handshakes (42_handshake.md): the meanings of format HS, and the steps that meet no encoded
item. A step is a sequence of micro-steps; `micro` says which is next. -/

namespace Sys2Proof.Machine

/-! ### Shared pieces -/

/-- `LineRead(n, timeout)` is called: it ends at its deadline at the latest (20_memory.md R82). -/
def State.beginRead (s : State) (n timeout : Nat) : State := s.goto (.read n (s.env.now + timeout))

/-- The second read of S3 and the last-chance read of S4 are called (R218, R221). -/
def State.beginReread (s : State) (n timeout : Nat) : State := s.goto (.reread n (s.env.now + timeout))

/-- `t <- now; wait_until(t + d)` begins (00_scope.md R10). -/
def State.beginWait (s : State) (d : Nat) : State := s.goto (.wait (s.env.now + d))

/-- Key byte 1 as received, `HS_KB[0]`. -/
def State.kb1 (s : State) : Byte := s.hsKb.getD 0 0#8

/-- Key byte 2 as received, `HS_KB[1]`. -/
def State.kb2 (s : State) : Byte := s.hsKb.getD 1 0#8

/-- The step after S6 (R225). -/
def State.afterComplement (s : State) : State := s.toStep (if s.hsKind = .kwp2000 then .s7 else .sLegacy)

/-- The rate of the second sync read (R219). -/
def toggledBaud (b : BitVec 32) : BitVec 32 := if b = Fixed.baudA then Fixed.baudB else Fixed.baudA

/-! ### The meanings of format HS -/

/-- `SYNC` 0x55: the sync byte has come; the read is over and step S4 begins (R217, R218). -/
def execSync (s : State) : Result := .next ((s.readDone 1).toStep .s4)

/-- Slot `k` of the address character of `a` begins: its level is put out, and it lasts until `HS_T0 + (k+1) * Tbit`
(R213). -/
def State.beginSlot (s : State) (a : BitVec 7) (k : Nat) : State :=
  (s.lineSetBreak (!level5 a k)).goto (.slot (k + 1) (s.hsT0 + (k + 1) * tbit s.cfg))

/-- `ADDR5`: the address character, one slot per micro-step (R213); after slot 9 step S2 begins. -/
def execAddr5 (a : BitVec 7) (s : State) : Result :=
  match s.micro with
  | .slot k _ => if k < 10 then .next (s.beginSlot a k) else .next (s.toStep .s2)
  | _ => .next (({ s with hsT0 := s.env.now } : State).beginSlot a 0)

/-- `KB1`: the validity of key byte 1 (R222, R223). -/
def execKb1 (p t u h b : Bool) (x : BitVec 2) (s : State) : Result :=
  if kb1Valid s.cfg.checkKbParity (kb1Byte p t u h b x) then .next (s.goto .key2) else .next (s.hsFail .badKeyBytes)

/-- `KB2`: the validity of key byte 2, and with it the verdict of step S5 (R222, R224). -/
def execKb2 (p : Bool) (x : BitVec 7) (s : State) : Result :=
  if kb2Valid s.cfg.checkKbParity (kb2Byte p x) then .next (({ s with hsKind := .kwp2000 } : State).toStep .s6)
  else .next (s.hsFail .badKeyBytes)

/-- `KB2_COMPLEMENT`: the complement `n` is written (R225); a short write ends the run (R237, R333; log 14). -/
def execKb2Complement (n : Byte) (s : State) : Result :=
  let k := s.writeCount [n]
  let t := s.lineWrite [n]
  if k ≠ 1 then .next ((t.raise (.transportError .write k)).hsFail .transport)
  else if s.cfg.verifyComplementEcho then .next (t.beginRead 1 s.cfg.complTimeout)
  else .next t.afterComplement

/-- `ADDR_COMPLEMENT`: the byte `n` the ECU answered (R229). -/
def execAddrComplement (n : Byte) (s : State) : Result :=
  let t := s.readDone 1
  if n = complement s.hsAddr then .next (t.toStep .s8) else .next (t.hsFail .addressComplement)

/-- `FAST_WAKEUP`: the level pattern of steps F1 to F3, one level per step (R231 to R233, R128). -/
def execFastWakeup (s : State) : Result :=
  match s.hsStep, s.micro with
  | .f1, .start => .next (s.beginWait (ms Fixed.fastIdle))
  | .f1, .wait _ => .next (s.toStep .f2)
  | .f2, .start =>
    .next ((({ s with hsT0 := s.env.now } : State).lineSetBreak true).goto (.wait (s.env.now + s.cfg.fastLow)))
  | .f2, .wait _ => .next (s.toStep .f3)
  | .f3, .start => .next ((s.lineSetBreak false).goto (.wait (s.hsT0 + s.cfg.fastLow + s.cfg.fastHigh)))
  | .f3, .wait _ => .next (s.toStep .f4)
  | _, _ => .fault .controlPoint

/-! ### The other steps -/

/-- The prologue of a run (R211). -/
def State.hsBegin (s : State) : State :=
  ({ s with
      attemptsLeft := s.attemptsLeft - 1
      connState := .connectionPending
      hsAddr := s.initAddr
      hsKb := []
      hsKind := .none
      hsChained := false
      hsStep := if s.connMode = .slowInit then .s0 else .f0
      micro := .start } : State).raise (.connStateChanged .disconnected .connectionPending)

/-- S0 begins (R212); chained, the rate is kept and the wait is `INTER_INIT_DELAY`. -/
def State.s0Begin (s : State) : State :=
  let s := s.lineSetBreak false
  if s.hsChained then s.beginWait s.cfg.interInitDelay
  else (s.lineSetBaud s.cfg.slowInitBaud).beginWait s.cfg.slowIdle

/-- S2 (R216). -/
def State.s2Purge (s : State) : State := (s.linePurge true true).toStep .s3

/-- S3 when the first read gave no sync byte (R217 to R219). -/
def State.s3Retry (s : State) : State :=
  let t := s.readDone 1
  if s.readFails then t.hsFail .transport
  else (t.lineSetBaud (toggledBaud t.baud)).beginReread 1 t.cfg.syncTimeout

/-- S3 when the second read gave no sync byte (R218). -/
def State.s3Fail (s : State) : State :=
  (s.readDone 1).hsFail (if s.readFails then .transport else .noSync)

/-- S4 begins (R220). -/
def State.s4Begin (s : State) : State := ({ s with hsKb := [] } : State).beginRead 1 s.cfg.kbTimeout

/-- The state after a read of `n` key bytes has returned (R220). -/
def State.takeKeys (s : State) (n : Nat) : State := { s.readDone n with hsKb := s.hsKb ++ s.readBytes n }

/-- S4 when a single-byte read has returned (R220). -/
def State.s4Read (s : State) : State :=
  let t := s.takeKeys 1
  if s.readFails then t.hsFail .transport
  else if (s.readBytes 1).isEmpty then t.beginReread (2 - t.hsKb.length) (2 * t.cfg.kbTimeout)
  else if t.hsKb.length < 2 then t.beginRead 1 t.cfg.kbTimeout
  else t.toStep .s5

/-- S4 when the last-chance read, of `n` bytes, has returned (R220, R221). -/
def State.s4Last (s : State) (n : Nat) : State :=
  let t := s.takeKeys n
  if s.readFails then t.hsFail .transport
  else if t.hsKb.length < 2 then t.hsFail .noKeyBytes
  else t.toStep .s5

/-- S5 begins: the legacy pair is tested first (R222). -/
def State.s5Begin (s : State) : State :=
  if (s.kb1, s.kb2) = s.cfg.legacyKb then ({ s with hsKind := .legacy } : State).toStep .s6 else s.goto .key1

/-- S6 when the read of the complement's echo has returned (R225). -/
def State.s6Echo (s : State) : State :=
  let t := s.readDone 1
  if s.readFails then t.hsFail .transport
  else if s.readBytes 1 = [complement s.kb2] then t.afterComplement
  else t.hsFail .complementEcho

/-- S7 when the read gave no byte (R229). -/
def State.s7Fail (s : State) : State :=
  (s.readDone 1).hsFail (if s.readFails then .transport else .addressComplement)

/-- S8, success of slow-init (R228). -/
def State.s8Success (s : State) : State :=
  { (({ s with
        keyByte1 := maskKey s.kb1
        keyByte2 := maskKey s.kb2
        keyValid := true
        commAddr := s.hsAddr
        attemptsLeft := 0
        connState := .connected } : State).raise (.connStateChanged .connectionPending .connected)) with
    swP3 := s.swP3.restart, hsStep := .idle, micro := .test }

/-- S_LEGACY (R226) and the chaining (R227). -/
def State.legacyStep (s : State) : State :=
  match s.secondAddr, s.hsChained with
  | some a, false =>
    ({ s with hsChained := true, hsAddr := a, hsKb := [], hsKind := .none } : State).toStep .s0
  | _, _ => s.hsFail .legacyProtocol

/-- F0 (R230). -/
def State.f0 (s : State) : State := ((s.lineSetBreak false).lineSetBaud s.cfg.fastBaud).toStep .f1

/-- F4 (R234). -/
def State.f4Purge (s : State) : State :=
  ({ s.linePurge true false with ignoreCnt := s.cfg.fastIgnore } : State).toStep .f5

/-- F5 up to the transmission, which is the next micro-step (R235). -/
def State.f5Push (s : State) : State :=
  match s.txqPushHead (ownEntry (startCommRequest s)) with
  | some t => t.goto .send
  | none => s.hsFail .queueFull

/-- The micro-steps of phase A that meet no encoded item, by step and position. The byte of S3 and S7 that is no item,
and the key byte 1 that is none, end here too. -/
def State.hsInternal (s : State) : Result :=
  match s.hsStep, s.micro with
  | .s0, .start => .next s.s0Begin
  | .s0, .wait _ => .next (s.toStep .s1)
  | .s2, .start => .next s.s2Purge
  | .s3, .start => .next (s.beginRead 1 s.cfg.syncTimeout)
  | .s3, .read _ _ => .next s.s3Retry
  | .s3, .reread _ _ => .next s.s3Fail
  | .s4, .start => .next s.s4Begin
  | .s4, .read _ _ => .next s.s4Read
  | .s4, .reread n _ => .next (s.s4Last n)
  | .s5, .start => .next s.s5Begin
  | .s5, .key1 => .next (s.hsFail .badKeyBytes)
  | .s6, .start => .next (s.beginWait s.cfg.w4Delay)
  | .s6, .read _ _ => .next s.s6Echo
  | .s7, .start => .next (s.beginRead 1 s.cfg.complTimeout)
  | .s7, .read _ _ => .next s.s7Fail
  | .s8, .start => .next s.s8Success
  | .sLegacy, .start => .next s.legacyStep
  | .f0, .start => .next s.f0
  | .f4, .start => .next s.f4Purge
  | .f5, .start => .next s.f5Push
  | _, _ => .fault .controlPoint

end Sys2Proof.Machine
end

