-- ==== Sys2Proof/Machine/Codec.lean ====
section
/-! DEFINITION. The frame codec (40_frame_codec.md): checksum, serialize, determine_requirements, parse_frame. -/

namespace Sys2Proof.Machine

/-- `checksum` (R151): the sum of the bytes modulo 256. -/
def checksum : List Byte → Byte
  | [] => 0#8
  | b :: bs => b + checksum bs

/-- A serializable message (R155). -/
def serializable (m : Message) : Bool :=
  m.data.length ≤ 254 && (m.mode != .none || (m.src == 0#8 && m.dst == 0#8))

/-- The bytes before the checksum (R152): header, length byte when `L ≥ 64`, service id, data. -/
def frameBody (m : Message) : List Byte :=
  let l := 1 + m.data.length
  (Form.forLength m.mode l).byte
    :: (if m.mode = .none then [] else [m.dst, m.src])
    ++ (if l ≤ 63 then [] else [BitVec.ofNat 8 l])
    ++ m.sid :: m.data

/-- `serialize` (R152); none for a message that is not serializable (R155: never truncating). -/
def serialize (m : Message) : Option (List Byte) :=
  if serializable m then some (frameBody m ++ [checksum (frameBody m)]) else none

/-- The result of `determine_requirements` (R153). -/
structure Requirements where
  headerLen : Nat
  mode : AddrCode
  dataLen : Nat
  checksumLen : Nat
  hasLenByte : Bool
deriving DecidableEq, Repr

/-- R153 for the bytes `rest` from the offset on, whose format byte has the form `f`; none = insufficient. -/
def formRequirements (f : Form) (rest : List Byte) : Option Requirements :=
  let headerLen := 1 + 2 * f.code.addrs
  if f.il ≠ 0#6 then some ⟨headerLen, f.code, f.il.toNat, 1, false⟩
  else
    match rest[headerLen]? with
    | none => none
    | some l => some ⟨headerLen, f.code, l.toNat, 1, true⟩

/-- `determine_requirements(buf, off)` (R153). -/
def determineRequirements (buf : List Byte) (off : Nat) : Option Requirements :=
  match buf.drop off with
  | [] => none
  | b :: r => formRequirements (Form.ofByte b) (b :: r)

/-- `total(q)` (R154). -/
def Requirements.total (q : Requirements) : Nat :=
  q.headerLen + (if q.hasLenByte then 1 else 0) + q.dataLen + q.checksumLen

/-- The index of the service id (R110). -/
def Requirements.sidAt (q : Requirements) : Nat := q.headerLen + (if q.hasLenByte then 1 else 0)

/-- Operand decode of a complete frame (R116). -/
def frameMessage (q : Requirements) (f : List Byte) : Message where
  mode := q.mode.mode
  dst := if q.mode.addrs = 1 then f.getD 1 0#8 else 0#8
  src := if q.mode.addrs = 1 then f.getD 2 0#8 else 0#8
  sid := f.getD q.sidAt 0#8
  data := (f.drop (q.sidAt + 1)).take (q.dataLen - 1)
  maxRetries := 0

/-- The result of `parse_frame` (R156); `message` also gives the total length `T`. -/
inductive ParseResult where
  | message (m : Message) (total : Nat)
  | notEnoughData (need : Nat)
  | invalidChecksum
  | requestedTooMuchData
  | noData
deriving DecidableEq, Repr

/-- `parse_frame` (R156) at the offset `off`, where the format byte has the form `f`; `cap` is `RXBUF_CAP`. The tests in
the order of R156's lines. -/
def parseForm (f : Form) (cap : Nat) (buf : List Byte) (off : Nat) : ParseResult :=
  let rest := buf.drop off
  let avail := rest.length
  if avail < 1 then .noData
  else if f.code = .reserved then .noData
  else
    match formRequirements f rest with
    | none => .notEnoughData (2 * f.code.addrs + 4 - avail)
    | some q =>
      if q.dataLen = 0 then .noData
      else if cap < off + q.total then .requestedTooMuchData
      else if avail < q.total then .notEnoughData (q.total - avail)
      else if checksum (rest.take (q.total - 1)) ≠ rest.getD (q.total - 1) 0#8 then .invalidChecksum
      else .message (frameMessage q rest) q.total

/-- `parse_frame(buf, off)` (R156). -/
def parseFrame (cap : Nat) (buf : List Byte) (off : Nat) : ParseResult :=
  match buf.drop off with
  | [] => .noData
  | b :: _ => parseForm (Form.ofByte b) cap buf off

end Sys2Proof.Machine
end

