-- ==== Sys2Proof/Machine/Scan.lean ====
section
/-! DEFINITION. The receive path of the message interface (43_message_interface.md): echo filter (R258), drain (R255,
R256), scan, discard and flush (R262 to R266). -/

namespace Sys2Proof.Machine

/-! ### Echo filter and drain -/

/-- One byte through the echo filter (R258): whether it is data, and the state after it. -/
def echoByte (b : Byte) (s : State) : Bool × State :=
  match s.echoFifo with
  | [] => (true, s)
  | x :: xs =>
    if b = x then
      (false, { s with echoFifo := xs, ignoreCnt := 0, foundEcho := xs.isEmpty || s.foundEcho })
    else if 0 < s.ignoreCnt then (false, { s with ignoreCnt := s.ignoreCnt - 1 })
    else
      (true, ({ s with echoFifo := [], ignoreCnt := 0, foundEcho := false } : State).raise
        (.echoMismatch (x :: xs) b))

/-- `echo_filter(r)` (R258): the bytes that are data, in order, and the state after. -/
def echoFilter : List Byte → State → List Byte × State
  | [], s => ([], s)
  | b :: bs, s =>
    let (keep, s) := echoByte b s
    let (r, s) := echoFilter bs s
    (if keep then b :: r else r, s)

/-- R256: the timer effect of received bytes. -/
def State.bytesReceived (s : State) : State := { s with swP1 := s.swP1.restart, swP2 := s.swP2.stop }

/-- What phase B and a probe read do with the bytes of a read (R255, 41_timing_engine.md R189): echo filter, append, and
R256 if at least one byte was appended. -/
def State.receive (s : State) (r : List Byte) : State :=
  let (r', s) := echoFilter r s
  if r'.isEmpty then s
  else
    let t := s.rxAppend r'
    if s.rxbuf.length < t.rxbuf.length then t.bytesReceived else t

/-- Phase B (R255): one `LineAvail`, and one `LineRead` of what it answers. A failed read counts as no bytes (R333). -/
def State.drain (s : State) : State :=
  let n := s.lineAvail
  if 0 < n then (s.readDone n).receive (s.readBytes n) else s

/-! ### Scan -/

/-- The two ways `RXBUF` becomes empty (R266). -/
inductive EmptyKind where
  | frame | garbage
deriving DecidableEq, Repr

/-- `on_buffer_empty(kind)` (R266). -/
def State.onBufferEmpty (s : State) (kind : EmptyKind) : State :=
  let s := { s with swP1 := s.swP1.reset }
  match kind with
  | .frame => { s with swP2 := s.swP2.restart, swP3 := s.swP3.restart }
  | .garbage => if s.expecting then { s with swP2 := s.swP2.restart } else s

/-- `on_frame(m, off, T)` (R265) up to the dispatch, which is the next micro-step: the message waits in `frame`. -/
def State.onFrame (s : State) (m : Message) (off total : Nat) : State :=
  let s := s.rxDropFront (off + total)
  let s := if 0 < off then s.raise (.garbageDiscarded off) else s
  let s := { s with p2maxEff := s.tpCurrent.p2max }
  let s := if s.rxbuf.isEmpty then s.onBufferEmpty .frame else s
  { s with frame := m, micro := .dispatch }

/-- `discard_one(kind)` (R263). -/
def State.discardOne (s : State) (kind : FrameKind) : State :=
  let s := (s.rxDropFront 1).raise (.framingError kind)
  if s.rxbuf.isEmpty then s.onBufferEmpty .garbage else s

/-- The scan waits for more bytes, or has none (R262). -/
def State.scanWaits (s : State) : State := { s with rxDirty := false, micro := .start }

/-- `scan_once()` (R262) where the format byte at the front has the form `f`. -/
def State.scanOnce (s : State) (f : Form) : State :=
  if s.rxbuf.isEmpty then s.scanWaits
  else
    match parseForm f s.cfg.rxbufCap s.rxbuf 0 with
    | .message m total => s.onFrame m 0 total
    | .notEnoughData _ => s.scanWaits
    | .invalidChecksum => (s.discardOne .invalidChecksum).goto .start
    | .noData => (s.discardOne .noData).goto .start
    | .requestedTooMuchData => (s.discardOne .requestedTooMuchData).goto .start

/-- One turn of the `for` of `flush()` (R264) at offset `k`, where the format byte has the form `f`. After a frame the
phase's loop finds the flag still set and the flush begins again at offset 0, R264's `repeat`. -/
def State.flushAt (s : State) (f : Form) (k : Nat) : State :=
  match parseForm f s.cfg.rxbufCap s.rxbuf k with
  | .message m total => s.onFrame m k total
  | .notEnoughData _ | .invalidChecksum | .noData | .requestedTooMuchData => s.goto (.flush (k + 1))

/-- The end of `flush()` (R264): no offset holds a frame. -/
def State.flushEnd (s : State) : State :=
  let n := s.rxbuf.length
  let s := if 0 < n then ((s.rxDropFront n).raise (.garbageFlushed n)).onBufferEmpty .garbage else s
  { s with p1Flush := false, rxDirty := false, micro := .start }

/-- What a format byte of form `f` at the scan position makes the machine do: one turn of the flush when a flush is in
progress, else one scan at offset 0 (R261). -/
def State.header (s : State) (f : Form) : State :=
  match s.micro with
  | .flush k => s.flushAt f k
  | _ => s.scanOnce f

end Sys2Proof.Machine
end

