-- ==== Sys2Proof/Machine/Headers.lean ====
section
/-! DEFINITION. The meanings of format FMT (30_encoding.md R113, R120): the format byte at the scan position selects the
header form, and with it where the addresses, the length byte, the service id and the checksum stand. -/

namespace Sys2Proof.Machine

/-- `H1X`: no address, explicit length byte (R113). -/
def execH1X (s : State) : Result := .next (s.header ⟨.none, 0#6⟩)

/-- `H1I`: no address, inline length `l` (R113). -/
def execH1I (l : BitVec 6) (s : State) : Result := .next (s.header ⟨.none, l⟩)

/-- `HRV`: the reserved address mode (R120): the parse answers NoData whatever the length. -/
def execHRV (l : BitVec 6) (s : State) : Result := .next (s.header ⟨.reserved, l⟩)

/-- `H3PX`: physical, explicit length byte (R113). -/
def execH3PX (s : State) : Result := .next (s.header ⟨.physical, 0#6⟩)

/-- `H3PI`: physical, inline length `l` (R113). -/
def execH3PI (l : BitVec 6) (s : State) : Result := .next (s.header ⟨.physical, l⟩)

/-- `H3FX`: functional, explicit length byte (R113). -/
def execH3FX (s : State) : Result := .next (s.header ⟨.functional, 0#6⟩)

/-- `H3FI`: functional, inline length `l` (R113). -/
def execH3FI (l : BitVec 6) (s : State) : Result := .next (s.header ⟨.functional, l⟩)

end Sys2Proof.Machine
end

