-- ==== Sys2Proof/Machine/HostCommands.lean ====
section
/-! DEFINITION. The meanings of format CMD (44_host_commands.md). A command takes effect in one atomic step (R311); when
the sequencer's lock lets it is the step's business. -/

namespace Sys2Proof.Machine

/-! ### Shared pieces -/

/-- A refused command (R310, R320, 60_exceptions.md R341): an event, a result, no change of state. -/
def State.refuse (s : State) (code : Byte) (reason : RefuseReason) : State :=
  (s.raise (.commandRefused code reason)).answer (.refused reason)

/-- The command was applied (R310, result `ok`). -/
def State.accept (s : State) : State := s.answer .ok

/-- `CommunicationTerminated` refuses every command but two (R314, R321). -/
def State.terminated (s : State) : Bool := s.connState == .communicationTerminated

/-- DISCONNECT in Connected (R313); on a full queue no StopCommunication is queued. -/
def State.beginDisconnect (s : State) : State :=
  let s := ({ s with attemptsLeft := 0, connState := .disconnectionPending } : State).raise
    (.connStateChanged .connected .disconnectionPending)
  let s := (s.txqPush (ownEntry (stopCommRequest s))).getD s
  { s with swDisc := s.swDisc.restart }

/-- TERMINATE outside CommunicationTerminated (R314). -/
def State.terminate (s : State) : State :=
  let s := s.enterDisconnected .terminated
  ({ s with attemptsLeft := 0, connState := .communicationTerminated } : State).raise
    (.connStateChanged .disconnected .communicationTerminated)

/-- The write of SET_TIMING (R315, 41_timing_engine.md R187). -/
def State.writeTiming (s : State) (which : WhichTiming) (tp : TimingSet) : State :=
  match which with
  | .default => { s with tpDefault := enforce tp }
  | .current => { s with tpCurrent := enforce tp, p2maxEff := (enforce tp).p2max }
  | .limits => { s with tpLimits := enforce tp }

/-- The value of a state element (R319). -/
def State.element (s : State) : Element → StatusValue
  | .connState => .connState s.connState
  | .connMode => .connMode s.connMode
  | .connAttemptsLeft => .number s.attemptsLeft
  | .initAddr => .byte s.initAddr
  | .secondAddr => .optByte s.secondAddr
  | .commAddr => .byte s.commAddr
  | .keyBytes => .bytePair s.keyByte1 s.keyByte2
  | .keyValid => .flag s.keyValid
  | .baud => .baud s.baud
  | .breakOut => .flag s.breakOut
  | .tpDefault => .timing s.tpDefault
  | .tpCurrent => .timing s.tpCurrent
  | .tpLimits => .timing s.tpLimits
  | .p2maxEff => .number s.p2maxEff
  | .swP1 => .stopwatch s.swP1
  | .swP2 => .stopwatch s.swP2
  | .swP3 => .stopwatch s.swP3
  | .swDisc => .stopwatch s.swDisc
  | .rxbuf => .bytes s.rxbuf
  | .rxDirty => .flag s.rxDirty
  | .p1FlushPending => .flag s.p1Flush
  | .echoFifo => .bytes s.echoFifo
  | .ignoreCnt => .number s.ignoreCnt
  | .foundEcho => .flag s.foundEcho
  | .txq => .entries s.txq
  | .expectingResp => .flag s.expecting
  | .respCount => .number s.respCount
  | .unsolicitedCnt => .number s.unsolicited
  | .unansweredCnt => .number s.unanswered
  | .phase => .phase s.phase
  | .hsStep => .hsStep s.hsStep
  | .hsAddr => .byte s.hsAddr
  | .hsT0 => .number s.hsT0
  | .hsKb => .bytes s.hsKb
  | .hsKind => .hsKind s.hsKind
  | .hsChained => .flag s.hsChained
  | .lockHeld => .holder s.lock
  | .events => .events s.events

/-! ### The meanings -/

/-- `CONNECT` (R312). -/
def execConnect (mode : ConnMode) (addr : Byte) (second : Option Byte) (attempts : Nat) (s : State) : Result :=
  if s.connState ≠ .disconnected then .next (s.refuse 0x01#8 .wrongState)
  else if attempts = 0 then .next (s.refuse 0x01#8 .badOperand)
  else
    .next ({ s with connMode := mode, initAddr := addr, secondAddr := second, attemptsLeft := attempts } : State).accept

/-- `DISCONNECT` (R313). -/
def execDisconnect (s : State) : Result :=
  match s.connState with
  | .disconnected => .next ({ s with attemptsLeft := 0 } : State).accept
  | .connectionPending => .next ((({ s with attemptsLeft := 0 } : State).enterDisconnected .hostDisconnect).accept)
  | .connected => .next s.beginDisconnect.accept
  | .disconnectionPending => .next s.accept
  | .communicationTerminated => .next (s.refuse 0x02#8 .wrongState)

/-- `TERMINATE` (R314). -/
def execTerminate (s : State) : Result := .next (if s.terminated then s else s.terminate).accept

/-- `ENQUEUE` (R316): the refusals in R316's order. -/
def execEnqueue (m : Message) (probe : Bool) (s : State) : Result :=
  if s.connState ≠ .connectionPending ∧ s.connState ≠ .connected then .next (s.refuse 0x04#8 .wrongState)
  else if serializable m then
    match s.txqPush ⟨m, 0, probe, false⟩ with
    | some t => .next t.accept
    | none => .next (s.refuse 0x04#8 .queueFull)
  else .next (s.refuse 0x04#8 .notSerializable)

/-- `SET_TIMING` (R315). -/
def execSetTiming (which : WhichTiming) (tp : TimingSet) (s : State) : Result :=
  if s.terminated then .next (s.refuse 0x05#8 .wrongState)
  else if tp.legal then .next (s.writeTiming which tp).accept
  else .next (s.refuse 0x05#8 .badOperand)

/-- `RESET_TIMING` (R317). -/
def execResetTiming (s : State) : Result :=
  if s.terminated then .next (s.refuse 0x06#8 .wrongState)
  else .next ({ s with tpCurrent := s.tpDefault, p2maxEff := s.tpDefault.p2max } : State).accept

/-- `SET_BAUD` (R318). -/
def execSetBaud (rate : BitVec 32) (s : State) : Result :=
  if s.terminated then .next (s.refuse 0x07#8 .wrongState)
  else if rate = 0#32 then .next (s.refuse 0x07#8 .badOperand)
  else .next (s.lineSetBaud rate).accept

/-- `READ_STATUS` (R319). -/
def execReadStatus (e : Element) (s : State) : Result := .next (s.answer (.value (s.element e)))

/-- `UNASSIGNED`: any other code (R320). -/
def execUnassigned (code : Byte) (s : State) : Result := .next (s.refuse code .unknownCommand)

end Sys2Proof.Machine
end

