-- ==== Sys2Proof/Machine/Exchange.lean ====
section
/-! DEFINITION. Response dispatch (43_message_interface.md R270 to R282) and the transmit side (R284 to R290). -/

namespace Sys2Proof.Machine

/-! ### Dispatch -/

/-- `unsolicited(m)` (R273). -/
def State.unsolicitedMsg (s : State) (m : Message) : State :=
  let t := ({ s with unsolicited := s.unsolicited + 1 } : State).raise (.unsolicitedResponse m)
  if Fixed.maxUnsolicited ≤ t.unsolicited then t.forceDisconnect .unsolicited else t

/-- "capture key bytes" (R277, R124): from the first two data bytes, if there are two. -/
def State.captureKeys (s : State) (m : Message) : State :=
  match m.data with
  | k1 :: k2 :: _ => { s with keyByte1 := maskKey k1, keyByte2 := maskKey k2, keyValid := true }
  | _ => s

/-- "become Connected" (R277): a fast-init in progress succeeds. -/
def State.fastConnected (s : State) : State :=
  if s.connState = .connectionPending then
    let t := { s with commAddr := s.hsAddr, attemptsLeft := 0, connState := .connected }
    { t.raise (.connStateChanged .connectionPending .connected) with swP3 := s.swP3.restart }
  else s

/-- `raise MessageReceived(m, req)` unless the entry is internal (R277, R278). -/
def State.deliver (s : State) (m : Message) (e : Entry) : State :=
  if e.internal then s else s.raise (.messageReceived m e.msg)

/-- `positive(m, req)` (R276 to R278) for the outstanding entry `e`. -/
def State.positive (s : State) (m : Message) (e : Entry) : State :=
  let s := { s with respCount := s.respCount + 1 }
  if e.msg.sid = s.cfg.sidStartComm then ((s.captureKeys m).fastConnected).deliver m e
  else if e.msg.sid = s.cfg.sidStopComm then (s.deliver m e).enterDisconnected .cleanDisconnect
  else if e.msg.sid = s.cfg.sidTesterPresent then s
  else s.raise (.messageReceived m e.msg)

/-- The negative responses whose code the block does not interpret (R281, R282). -/
def State.negativeOther (s : State) (m req : Message) : State :=
  if req.sid = s.cfg.sidStartComm then s.forceDisconnect .startCommRejected
  else if req.sid = s.cfg.sidTesterPresent then { s with respCount := s.respCount + 1 }
  else if req.sid = s.cfg.sidStopComm then s.forceDisconnect .stopCommRejected
  else ({ s with respCount := s.respCount + 1 } : State).raise (.messageReceived m req)

/-- `negative(m, req)` (R275): with a response code the code is the next item; without one it is uninterpreted (R123). -/
def State.negative (s : State) (m : Message) (e : Entry) : State :=
  match m.data with
  | _ :: _ :: _ => { s with frame := m, micro := .code }
  | _ => s.negativeOther m e.msg

/-- Both supervision counters are 0 after a match (R274). -/
def State.matched (s : State) : State := { s with unsolicited := 0, unanswered := 0 }

/-- `dispatch(m)` (R270, R271, R274). The phase's loop goes on after it. -/
def State.dispatch (s : State) (m : Message) : State :=
  let s := s.goto .start
  if accepted s.cfg m then
    match s.outstanding with
    | some e =>
      if m.sid = positiveOf e.msg.sid then s.matched.positive m e
      else if m.sid = s.cfg.sidNegResp ∧ m.data.head? = some e.msg.sid then s.matched.negative m e
      else s.unsolicitedMsg m
    | none => s.unsolicitedMsg m
  else s.raise (.messageIgnored m)

/-! ### Response codes -/

/-- ResponsePending (R279). -/
def State.responsePending (s : State) : State :=
  ({ s with p2maxEff := s.tpCurrent.p3max } : State).raise (.responsePendingSeen s.frame)

/-- Busy-RepeatRequest (R280) for the head `e` of the queue. -/
def State.busyRepeat (s : State) (e : Entry) (q : List Entry) : State :=
  ({ s with
      txq := { e with attempts := e.attempts - 1 } :: q
      expecting := false
      swP2 := s.swP2.reset } : State).raise (.busySeen s.frame)

/-- The branch on the response code (R275): by the instance's two codes, then R281, R282. -/
def State.responseCode (s : State) (c : Byte) : Result :=
  let s := s.goto .start
  if c = s.cfg.rcResponsePending then .next s.responsePending
  else
    match s.txq with
    | [] => .fault .queueEmpty
    | e :: q =>
      if c = s.cfg.rcBusy then .next (s.busyRepeat e q) else .next (s.negativeOther s.frame e.msg)

/-! ### Transmission -/

/-- What follows a transmission: in step F5 the run goes on in the pipeline or fails (42_handshake.md R235), in phase E
the iteration is over (R284: "At most one transmission ... per iteration"). -/
def State.afterSend (s : State) (ok : Bool) : State :=
  if s.hsStep = .f5 then
    if ok then { s with hsStep := .idle, micro := .test } else s.hsFail .transport
  else s.toSleep

/-- `transmit()` (R286) after `LineWrite` has returned `n`: `e` was the head, `q` the rest, `bytes` the frame. The
failing branch is `write_failed(n)` (R289). -/
def State.sent (s : State) (e : Entry) (q : List Entry) (bytes : List Byte) (n : Nat) : State :=
  let s := { s with txq := { e with attempts := e.attempts + 1 } :: q }
  if n = bytes.length then
    let t := { s with
      echoFifo := s.echoFifo ++ bytes
      foundEcho := false
      expecting := true
      p2maxEff := s.tpCurrent.p2max
      swP2 := s.swP2.restart
      swP3 := s.swP3.restart }
    (t.raise (.messageSent e.msg (e.attempts + 1))).afterSend true
  else (s.raise (.transportError .write n)).afterSend false

/-- How many bytes of a paced frame are written (R385). -/
def Micro.paced : Micro → Nat
  | .pace n _ => n
  | _ => 0

/-- One byte of a paced transmission (R385, `TX_PACE_P4 = true`). -/
def State.sendPaced (s : State) (e : Entry) (q : List Entry) (bytes : List Byte) : State :=
  let k := s.micro.paced
  let b := [bytes.getD k 0#8]
  let t := s.lineWrite b
  if s.writeCount b = 0 then t.sent e q bytes k
  else if bytes.length ≤ k + 1 then t.sent e q bytes (k + 1)
  else t.goto (.pace (k + 1) (t.env.now + ms t.tpCurrent.p4min))

/-- `transmit()` (R286) of the head entry, whose service id is `sid`. -/
def State.transmit (s : State) (sid : Byte) : Result :=
  match s.txq with
  | [] => .fault .queueEmpty
  | h :: q =>
    let e := { h with msg := { h.msg with sid := sid } }
    match serialize e.msg with
    | none => .refused .notSerializable
    | some bytes =>
      if s.cfg.txPaceP4 then .next (s.sendPaced e q bytes)
      else .next ((s.lineWrite bytes).sent e q bytes (s.writeCount bytes))

/-- `finalize(outcome)` (R288). -/
def State.finalize (s : State) (outcome : MsgOutcome) : Result :=
  match s.txq with
  | [] => .fault .queueEmpty
  | e :: q =>
    let t := { s with txq := q, respCount := 0, expecting := false }
    .next (if e.internal then t else t.raise (.messageFinished e.msg outcome e.attempts))

/-- `unanswered()` (R290). -/
def State.unansweredMsg (s : State) : Result :=
  match s.txq with
  | [] => .fault .queueEmpty
  | e :: _ =>
    let s := s.raise (.messageUnanswered e.msg e.attempts)
    if s.connState = .connectionPending then
      .next ((s.raise (.handshakeFailed .noResponse)).enterDisconnected .handshakeFailure)
    else if e.probe then .next s
    else
      let s := { s with unanswered := s.unanswered + 1 }
      .next (if Fixed.maxUnanswered ≤ s.unanswered then s.forceDisconnect .unanswered else s)

/-- `retry_exhausted()` (R287), then the iteration is over. -/
def State.retryExhausted (s : State) : Result :=
  match s.txq with
  | [] => .fault .queueEmpty
  | e :: q =>
    let stop := e.internal && e.msg.sid == s.cfg.sidStopComm && s.connState == .disconnectionPending
    let t := { s with txq := q, respCount := 0, expecting := false }
    let t := if e.internal then t else t.raise (.messageFinished e.msg .failed e.attempts)
    .next (if stop then t.enterDisconnected .cleanTimeout else t).toSleep

/-- `keep_alive()` (R285); on a full queue none is injected (60_exceptions.md R340). -/
def State.keepAlive (s : State) : State :=
  if s.keepAliveDue then (s.txqPush (ownEntry (keepAliveRequest s))).getD s else s

/-- Phase E (R284) up to the transmission, which is the next micro-step. -/
def State.phaseE (s : State) : Result :=
  if s.canTx then
    let s := s.keepAlive
    match s.txq with
    | [] => .next s.toSleep
    | e :: _ => if e.attempts ≤ e.msg.maxRetries then .next (s.goto .send) else s.retryExhausted
  else .next s.toSleep

end Sys2Proof.Machine
end

