-- ==== Sys2Proof/Machine/Services.lean ====
section
/-! DEFINITION. The meanings of the formats SID and NRC. A service id is met at two places (`Dir`): received, it is
dispatched (43_message_interface.md R270 to R282); at the head of the send queue, its message is transmitted (R286). The
block tests a service id against the four parameters of 00_scope.md R8 only and forwards every other one untouched (R276),
so every row of format SID is the same shared operation on its own number. A response code is tested against two
parameters (R275, R123). -/

namespace Sys2Proof.Machine

/-- What the machine does at the service id `sid`: dispatch of the message received (R270), or transmission of the head
entry (R286). -/
def State.atService (s : State) (sid : Byte) : Dir → Result
  | .rx => .next (s.dispatch { s.frame with sid := sid })
  | .tx => s.transmit sid

/-- `StartCommunication.req`, 0x81 (R122). -/
def execStartCommunicationReq (d : Dir) (s : State) : Result := s.atService 0x81#8 d

/-- `StartCommunication.pos`, 0xC1 (R122). -/
def execStartCommunicationPos (d : Dir) (s : State) : Result := s.atService 0xC1#8 d

/-- `StopCommunication.req`, 0x82 (R122). -/
def execStopCommunicationReq (d : Dir) (s : State) : Result := s.atService 0x82#8 d

/-- `StopCommunication.pos`, 0xC2 (R122). -/
def execStopCommunicationPos (d : Dir) (s : State) : Result := s.atService 0xC2#8 d

/-- `TesterPresent.req`, 0x3E (R122). -/
def execTesterPresentReq (d : Dir) (s : State) : Result := s.atService 0x3E#8 d

/-- `TesterPresent.pos`, 0x7E (R122). -/
def execTesterPresentPos (d : Dir) (s : State) : Result := s.atService 0x7E#8 d

/-- `StartDiagnosticSession.req`, 0x10 (R122). -/
def execStartDiagnosticSessionReq (d : Dir) (s : State) : Result := s.atService 0x10#8 d

/-- `StartDiagnosticSession.pos`, 0x50 (R122). -/
def execStartDiagnosticSessionPos (d : Dir) (s : State) : Result := s.atService 0x50#8 d

/-- `ReadMemoryByAddress.req`, 0x23 (R122). -/
def execReadMemoryByAddressReq (d : Dir) (s : State) : Result := s.atService 0x23#8 d

/-- `ReadMemoryByAddress.pos`, 0x63 (R122). -/
def execReadMemoryByAddressPos (d : Dir) (s : State) : Result := s.atService 0x63#8 d

/-- `WriteMemoryByAddress.req`, 0x3D (R122). -/
def execWriteMemoryByAddressReq (d : Dir) (s : State) : Result := s.atService 0x3D#8 d

/-- `WriteMemoryByAddress.pos`, 0x7D (R122). -/
def execWriteMemoryByAddressPos (d : Dir) (s : State) : Result := s.atService 0x7D#8 d

/-- `SecurityAccess.req`, 0x27 (R122). -/
def execSecurityAccessReq (d : Dir) (s : State) : Result := s.atService 0x27#8 d

/-- `SecurityAccess.pos`, 0x67 (R122). -/
def execSecurityAccessPos (d : Dir) (s : State) : Result := s.atService 0x67#8 d

/-- `RequestDownload.req`, 0x34 (R122). -/
def execRequestDownloadReq (d : Dir) (s : State) : Result := s.atService 0x34#8 d

/-- `RequestDownload.pos`, 0x74 (R122). -/
def execRequestDownloadPos (d : Dir) (s : State) : Result := s.atService 0x74#8 d

/-- `RequestUpload.req`, 0x35 (R122). -/
def execRequestUploadReq (d : Dir) (s : State) : Result := s.atService 0x35#8 d

/-- `RequestUpload.pos`, 0x75 (R122). -/
def execRequestUploadPos (d : Dir) (s : State) : Result := s.atService 0x75#8 d

/-- `TransferData.req`, 0x36 (R122). -/
def execTransferDataReq (d : Dir) (s : State) : Result := s.atService 0x36#8 d

/-- `TransferData.pos`, 0x76 (R122). -/
def execTransferDataPos (d : Dir) (s : State) : Result := s.atService 0x76#8 d

/-- `RequestTransferExit.req`, 0x37 (R122). -/
def execRequestTransferExitReq (d : Dir) (s : State) : Result := s.atService 0x37#8 d

/-- `RequestTransferExit.pos`, 0x77 (R122). -/
def execRequestTransferExitPos (d : Dir) (s : State) : Result := s.atService 0x77#8 d

/-- `ReadECUIdentification.req`, 0x1A (R122). -/
def execReadECUIdentificationReq (d : Dir) (s : State) : Result := s.atService 0x1A#8 d

/-- `ReadECUIdentification.pos`, 0x5A (R122). -/
def execReadECUIdentificationPos (d : Dir) (s : State) : Result := s.atService 0x5A#8 d

/-- `ReadDataByLocalIdentifier.req`, 0x21 (R122). -/
def execReadDataByLocalIdentifierReq (d : Dir) (s : State) : Result := s.atService 0x21#8 d

/-- `ReadDataByLocalIdentifier.pos`, 0x61 (R122). -/
def execReadDataByLocalIdentifierPos (d : Dir) (s : State) : Result := s.atService 0x61#8 d

/-- `ReadDataByCommonIdentifier.req`, 0x22 (R122). -/
def execReadDataByCommonIdentifierReq (d : Dir) (s : State) : Result := s.atService 0x22#8 d

/-- `ReadDataByCommonIdentifier.pos`, 0x62 (R122). -/
def execReadDataByCommonIdentifierPos (d : Dir) (s : State) : Result := s.atService 0x62#8 d

/-- `ReadDiagnosticTroubleCodesByStatus.req`, 0x18 (R122). -/
def execReadDiagnosticTroubleCodesByStatusReq (d : Dir) (s : State) : Result := s.atService 0x18#8 d

/-- `ReadDiagnosticTroubleCodesByStatus.pos`, 0x58 (R122). -/
def execReadDiagnosticTroubleCodesByStatusPos (d : Dir) (s : State) : Result := s.atService 0x58#8 d

/-- `ClearDiagnosticInformation.req`, 0x14 (R122). -/
def execClearDiagnosticInformationReq (d : Dir) (s : State) : Result := s.atService 0x14#8 d

/-- `ClearDiagnosticInformation.pos`, 0x54 (R122). -/
def execClearDiagnosticInformationPos (d : Dir) (s : State) : Result := s.atService 0x54#8 d

/-- `VendorDataLoggingDefine.req`, 0xB7 (R122). -/
def execVendorDataLoggingDefineReq (d : Dir) (s : State) : Result := s.atService 0xB7#8 d

/-- `VendorDataLoggingDefine.pos`, 0xF7 (R122). -/
def execVendorDataLoggingDefinePos (d : Dir) (s : State) : Result := s.atService 0xF7#8 d

/-- `VendorDataLoggingRead.req`, 0xB8 (R122). -/
def execVendorDataLoggingReadReq (d : Dir) (s : State) : Result := s.atService 0xB8#8 d

/-- `VendorDataLoggingRead.pos`, 0xF8 (R122). -/
def execVendorDataLoggingReadPos (d : Dir) (s : State) : Result := s.atService 0xF8#8 d

/-- `NegativeResponse`, 0x7F (R122). -/
def execNegativeResponse (d : Dir) (s : State) : Result := s.atService 0x7F#8 d

/-- `AnyResponse`: any other service id `b` with bit 6 set (R121). -/
def execAnyResponse (b : Byte) (d : Dir) (s : State) : Result := s.atService b d

/-- `AnyRequest`: any other service id `b` with bit 6 clear (R121). -/
def execAnyRequest (b : Byte) (d : Dir) (s : State) : Result := s.atService b d

/-- `ResponsePending`, 0x78: the branch on the response code (R275; R279 when the instance's parameter is 0x78). -/
def execResponsePending (s : State) : Result := s.responseCode 0x78#8

/-- `BusyRepeatRequest`, 0x21: the branch on the response code (R275; R280 when the instance's parameter is 0x21). -/
def execBusyRepeatRequest (s : State) : Result := s.responseCode 0x21#8

/-- `OtherCode`: any other response code (R275, R281, R282). -/
def execOtherCode (c : Byte) (s : State) : Result := s.responseCode c

end Sys2Proof.Machine
end

