-- ==== Sys2Proof/Machine/Dispatch.lean ====
section
/-! DEFINITION. One arm per item of the table. -/

namespace Sys2Proof.Machine

def exec (i : Instr) (s : State) : Host.Outcome State Fault Refusal :=
  match i with
  | .h1x => Sys2Proof.Machine.execH1X s
  | .h1i l => Sys2Proof.Machine.execH1I l s
  | .hrv l => Sys2Proof.Machine.execHRV l s
  | .h3px => Sys2Proof.Machine.execH3PX s
  | .h3pi l => Sys2Proof.Machine.execH3PI l s
  | .h3fx => Sys2Proof.Machine.execH3FX s
  | .h3fi l => Sys2Proof.Machine.execH3FI l s
  | .startCommunicationReq d => Sys2Proof.Machine.execStartCommunicationReq d s
  | .startCommunicationPos d => Sys2Proof.Machine.execStartCommunicationPos d s
  | .stopCommunicationReq d => Sys2Proof.Machine.execStopCommunicationReq d s
  | .stopCommunicationPos d => Sys2Proof.Machine.execStopCommunicationPos d s
  | .testerPresentReq d => Sys2Proof.Machine.execTesterPresentReq d s
  | .testerPresentPos d => Sys2Proof.Machine.execTesterPresentPos d s
  | .startDiagnosticSessionReq d => Sys2Proof.Machine.execStartDiagnosticSessionReq d s
  | .startDiagnosticSessionPos d => Sys2Proof.Machine.execStartDiagnosticSessionPos d s
  | .readMemoryByAddressReq d => Sys2Proof.Machine.execReadMemoryByAddressReq d s
  | .readMemoryByAddressPos d => Sys2Proof.Machine.execReadMemoryByAddressPos d s
  | .writeMemoryByAddressReq d => Sys2Proof.Machine.execWriteMemoryByAddressReq d s
  | .writeMemoryByAddressPos d => Sys2Proof.Machine.execWriteMemoryByAddressPos d s
  | .securityAccessReq d => Sys2Proof.Machine.execSecurityAccessReq d s
  | .securityAccessPos d => Sys2Proof.Machine.execSecurityAccessPos d s
  | .requestDownloadReq d => Sys2Proof.Machine.execRequestDownloadReq d s
  | .requestDownloadPos d => Sys2Proof.Machine.execRequestDownloadPos d s
  | .requestUploadReq d => Sys2Proof.Machine.execRequestUploadReq d s
  | .requestUploadPos d => Sys2Proof.Machine.execRequestUploadPos d s
  | .transferDataReq d => Sys2Proof.Machine.execTransferDataReq d s
  | .transferDataPos d => Sys2Proof.Machine.execTransferDataPos d s
  | .requestTransferExitReq d => Sys2Proof.Machine.execRequestTransferExitReq d s
  | .requestTransferExitPos d => Sys2Proof.Machine.execRequestTransferExitPos d s
  | .readECUIdentificationReq d => Sys2Proof.Machine.execReadECUIdentificationReq d s
  | .readECUIdentificationPos d => Sys2Proof.Machine.execReadECUIdentificationPos d s
  | .readDataByLocalIdentifierReq d => Sys2Proof.Machine.execReadDataByLocalIdentifierReq d s
  | .readDataByLocalIdentifierPos d => Sys2Proof.Machine.execReadDataByLocalIdentifierPos d s
  | .readDataByCommonIdentifierReq d => Sys2Proof.Machine.execReadDataByCommonIdentifierReq d s
  | .readDataByCommonIdentifierPos d => Sys2Proof.Machine.execReadDataByCommonIdentifierPos d s
  | .readDiagnosticTroubleCodesByStatusReq d => Sys2Proof.Machine.execReadDiagnosticTroubleCodesByStatusReq d s
  | .readDiagnosticTroubleCodesByStatusPos d => Sys2Proof.Machine.execReadDiagnosticTroubleCodesByStatusPos d s
  | .clearDiagnosticInformationReq d => Sys2Proof.Machine.execClearDiagnosticInformationReq d s
  | .clearDiagnosticInformationPos d => Sys2Proof.Machine.execClearDiagnosticInformationPos d s
  | .vendorDataLoggingDefineReq d => Sys2Proof.Machine.execVendorDataLoggingDefineReq d s
  | .vendorDataLoggingDefinePos d => Sys2Proof.Machine.execVendorDataLoggingDefinePos d s
  | .vendorDataLoggingReadReq d => Sys2Proof.Machine.execVendorDataLoggingReadReq d s
  | .vendorDataLoggingReadPos d => Sys2Proof.Machine.execVendorDataLoggingReadPos d s
  | .negativeResponse d => Sys2Proof.Machine.execNegativeResponse d s
  | .anyResponse b d => Sys2Proof.Machine.execAnyResponse b d s
  | .anyRequest b d => Sys2Proof.Machine.execAnyRequest b d s
  | .responsePending => Sys2Proof.Machine.execResponsePending s
  | .busyRepeatRequest => Sys2Proof.Machine.execBusyRepeatRequest s
  | .otherCode c => Sys2Proof.Machine.execOtherCode c s
  | .sync => Sys2Proof.Machine.execSync s
  | .addr5 a => Sys2Proof.Machine.execAddr5 a s
  | .kb1 p t u h b x => Sys2Proof.Machine.execKb1 p t u h b x s
  | .kb2 p x => Sys2Proof.Machine.execKb2 p x s
  | .kb2Complement n => Sys2Proof.Machine.execKb2Complement n s
  | .addrComplement n => Sys2Proof.Machine.execAddrComplement n s
  | .fastWakeup => Sys2Proof.Machine.execFastWakeup s
  | .connect mode addr second attempts => Sys2Proof.Machine.execConnect mode addr second attempts s
  | .disconnect => Sys2Proof.Machine.execDisconnect s
  | .terminate => Sys2Proof.Machine.execTerminate s
  | .enqueue m probe => Sys2Proof.Machine.execEnqueue m probe s
  | .setTiming which tp => Sys2Proof.Machine.execSetTiming which tp s
  | .resetTiming => Sys2Proof.Machine.execResetTiming s
  | .setBaud rate => Sys2Proof.Machine.execSetBaud rate s
  | .readStatus e => Sys2Proof.Machine.execReadStatus e s
  | .unassigned code => Sys2Proof.Machine.execUnassigned code s

end Sys2Proof.Machine
end

