-- ==== Sys2Proof/Machine/Timing.lean ====
section
/-! DEFINITION. The expiry checks of phase D (41_timing_engine.md R188 to R195) as micro-steps: each check is one, and a
probe read, which may wait, is one more. -/

namespace Sys2Proof.Machine

/-- The deadline of a probe read begun now (R189). -/
def State.probeEnd (s : State) : Nat := s.env.now + s.cfg.probeTimeout

/-- The test of `check_P1` (R188): on expiry the probe read begins. -/
def State.checkP1 (s : State) : State := if s.p1Over then s.goto (.probe1 s.probeEnd) else s.goto .checkP2

/-- `probe_read()` (R189) has returned: whether it gave a byte, and the state after. -/
def State.probed (s : State) : Bool × State :=
  let r := s.readBytes 1
  if r.isEmpty then (false, s.readDone 1) else (true, (s.readDone 1).receive r)

/-- `check_P1` after its probe read (R188). -/
def State.probeP1 (s : State) : State :=
  let (got, t) := s.probed
  (if got then t else ({ t with p1Flush := true } : State).raise (.timingViolation .p1)).goto .checkP2

/-- `check_P2` (R190). -/
def State.checkP2 (s : State) : Result :=
  if s.p2Over then
    let s := { s with swP2 := s.swP2.reset, micro := .checkP3 }
    if s.expecting then
      let s := ({ s with expecting := false } : State).raise (.timingViolation .p2)
      if s.respCount = 0 then s.unansweredMsg else s.finalize .success
    else .next s
  else .next (s.goto .checkP3)

/-- The test of `check_P3` (R192): on expiry the probe read begins. -/
def State.checkP3 (s : State) : State := if s.p3Over then s.goto (.probe3 s.probeEnd) else s.goto .checkDisc

/-- `check_P3` after its probe read (R192). -/
def State.probeP3 (s : State) : State :=
  let (got, t) := s.probed
  (if got then t else (t.raise (.timingViolation .p3)).forceDisconnect .p3Timeout).goto .checkDisc

/-- `check_DISC` (R194), the last check of phase D (R195). -/
def State.checkDisc (s : State) : State :=
  (if s.discOver then s.enterDisconnected .cleanTimeout else s).toPhase .e

end Sys2Proof.Machine
end

