-- ==== Sys2Proof/Machine/Sequencer.lean ====
section
/-! DEFINITION. The poll loop (43_message_interface.md R250): the sequencer's micro-steps that meet no encoded item, and
when the sequencer can move. -/

namespace Sys2Proof.Machine

/-- The start of phase A (R250, R253): the lock is taken (20_memory.md R93), and a run begins if one is due. -/
def State.phaseA (s : State) : State :=
  let s := { s with lock := .seq }
  if s.connState = .disconnected ∧ 0 < s.attemptsLeft then s.hsBegin else s.goto .test

/-- The state test after phase A (R250). -/
def State.afterA (s : State) : State := if s.iterates then s.toPhase .b else s.toSleep

/-- The loop test of phase C (R261). A dirty buffer with bytes is an encoded item, met by the fetch; an empty one ends
the scan (R262). -/
def State.phaseC (s : State) : State :=
  if s.p1Flush then s.goto (.flush 0) else if s.rxDirty then s.scanWaits else s.toPhase .d

/-- One micro-step of `SEQ` that meets no encoded item. -/
def State.internal (s : State) : Result :=
  match s.phase, s.micro with
  | .a, .test => .next s.afterA
  | .a, .start => if s.hsStep = .idle then .next s.phaseA else s.hsInternal
  | .a, .send => .fault .queueEmpty
  | .a, _ => s.hsInternal
  | .b, .start => .next (s.drain.toPhase .c)
  | .c, .start => .next s.phaseC
  | .c, .flush _ => .next s.flushEnd
  | .c, .code =>
    match s.txq with
    | [] => .fault .queueEmpty
    | e :: _ => .next ((s.goto .start).negativeOther s.frame e.msg)
  | .d, .start => .next s.checkP1
  | .d, .probe1 _ => .next s.probeP1
  | .d, .checkP2 => s.checkP2
  | .d, .checkP3 => .next s.checkP3
  | .d, .probe3 _ => .next s.probeP3
  | .d, .checkDisc => .next s.checkDisc
  | .e, .start => s.phaseE
  | .e, .send => .fault .queueEmpty
  | .sleep, .wait _ => .next (s.toPhase .a)
  | _, _ => .fault .controlPoint

/-- The sequencer stands before phase A and must take the lock (20_memory.md R93). -/
def State.wantsLock (s : State) : Bool := s.phase == .a && s.hsStep == .idle && s.micro == .start

/-- The `LineRead` the sequencer is in: how many bytes it wants and when it ends at the latest (20_memory.md R82). -/
def Micro.pending : Micro → Option (Nat × Nat)
  | .read n t => some (n, t)
  | .reread n t => some (n, t)
  | .probe1 t => some (1, t)
  | .probe3 t => some (1, t)
  | _ => none

/-- The instant the sequencer waits for (00_scope.md R10, `wait_until`). -/
def Micro.awaited : Micro → Option Nat
  | .wait t => some t
  | .slot _ t => some t
  | .pace _ t => some t
  | _ => none

/-- `SEQ` can make its next micro-step: a wait is over (R10), a read returns (R82), the lock is free (R93). -/
def State.enabled (s : State) : Bool :=
  match s.micro.pending, s.micro.awaited with
  | some (n, t), _ => s.readReady n t
  | none, some t => t ≤ s.env.now
  | none, none => !s.wantsLock || s.lock == .none

/-- The clock runs to the instant the sequencer waits for (log 2). Blocked by the lock, it awaits none. -/
def State.autoTick (s : State) : State :=
  match s.micro.pending, s.micro.awaited with
  | some (_, t), _ => s.tick (t - s.env.now)
  | none, some t => s.tick (t - s.env.now)
  | none, none => s

end Sys2Proof.Machine
end

