-- ==== Sys2Proof/Machine/Fetch.lean ====
section
/-! DEFINITION. Where the machine meets encoded items: the bytes of the item at the sequencer's position, the places that
put a given item there, and which commands wait for the lock. "there is no instruction memory and nothing is fetched; the
'program' is the fixed loop" (10_state.md R45): an item is what the loop finds in `RXBUF`, in a received message, at the
head of `TXQ`, on the line, or at the host port. -/

namespace Sys2Proof.Machine

/-- The byte the pending read of step S3 or S7 would return, at the place `p`. -/
def State.lineItem (s : State) (p : Port) : Option (Port × List Byte) :=
  if s.readFails then none else s.env.lineRx.head?.map fun b => (p, [b])

/-- The item of a handshake step, by position (30_encoding.md R131). -/
def State.hsItem (s : State) : Option (Port × List Byte) :=
  match s.hsStep, s.micro with
  | .s1, .start => some (.char5, encode (.addr5 (s.hsAddr.extractLsb' 0 7)))
  | .s1, .slot _ _ => some (.char5, encode (.addr5 (s.hsAddr.extractLsb' 0 7)))
  | .s3, .read _ _ => s.lineItem .sync
  | .s3, .reread _ _ => s.lineItem .sync
  | .s5, .key1 => s.hsKb[0]?.map fun b => (.key1, [b])
  | .s5, .key2 => s.hsKb[1]?.map fun b => (.key2, [b])
  | .s6, .wait _ => s.hsKb[1]?.map fun b => (.complement, [complement b])
  | .s7, .read _ _ => s.lineItem .addrComplement
  | .f1, .start => some (.wakeup, [0b101#8])
  | .f1, .wait _ => some (.wakeup, [0b101#8])
  | .f2, .start => some (.wakeup, [0b101#8])
  | .f2, .wait _ => some (.wakeup, [0b101#8])
  | .f3, .start => some (.wakeup, [0b101#8])
  | .f3, .wait _ => some (.wakeup, [0b101#8])
  | _, _ => none

/-- The service id at the head of the queue. -/
def State.headItem (s : State) : Option (Port × List Byte) :=
  s.txq.head?.map fun e => (.service .tx, [e.msg.sid])

/-- The item at the sequencer's position: its place and its bytes. -/
def State.fetch (s : State) : Option (Port × List Byte) :=
  match s.phase, s.micro with
  | .a, .send => s.headItem
  | .a, .pace _ _ => s.headItem
  | .a, _ => s.hsItem
  | .c, .start =>
    if !s.p1Flush && s.rxDirty then s.rxbuf.head?.map fun b => (.header, [b]) else none
  | .c, .flush k => s.rxbuf[k]?.map fun b => (.header, [b])
  | .c, .dispatch => some (.service .rx, [s.frame.sid])
  | .c, .code => s.frame.data[1]?.map fun b => (.code, [b])
  | .e, .send => s.headItem
  | .e, .pace _ _ => s.headItem
  | _, _ => none

/-- A host command of the table takes the lock into account (44_host_commands.md R310, column "locked"). -/
def locked : Instr → Bool
  | .connect _ _ _ _ | .disconnect | .terminate | .setTiming _ _ | .resetTiming | .setBaud _ => true
  | _ => false

/-! ### Placing an item -/

/-- Phase A at a handshake step. -/
def State.atStep (s : State) (h : HsStep) (m : Micro) : State := { s with phase := .a, hsStep := h, micro := m }

/-- The byte `b` at the index `i` of the message received. -/
def withDataByte (d : List Byte) (i : Nat) (b : Byte) : List Byte :=
  d.take i ++ List.replicate (i - d.length) 0#8 ++ b :: d.drop (i + 1)

/-- The head entry of a queue with the service id `sid`; in an empty queue a message without addresses. -/
def withHeadSid (q : List Entry) (sid : Byte) : List Entry :=
  match q with
  | [] => [⟨⟨.none, 0#8, 0#8, sid, [], 0⟩, 0, false, false⟩]
  | e :: q => { e with msg := { e.msg with sid := sid } } :: q

/-- The schedule is empty, so that the sequencer moves; a read answers as its bytes say. -/
def State.seqNext (s : State) : State := { s with env := { s.env with sched := [], readAns := .normal } }

/-- The state in which the item with the bytes `bs` stands where the next step meets it, at the place `p`. -/
def State.present (s : State) (p : Port) (bs : List Byte) : State :=
  let b := bs.headD 0#8
  match p with
  | .header =>
    { s.seqNext with phase := .c, micro := .start, p1Flush := false, rxDirty := true, rxbuf := b :: s.rxbuf.drop 1 }
  | .service .rx => { s.seqNext with phase := .c, micro := .dispatch, frame := { s.frame with sid := b } }
  | .service .tx => { s.seqNext with phase := .e, micro := .send, hsStep := .idle, txq := withHeadSid s.txq b }
  | .code =>
    { s.seqNext with
      phase := .c, micro := .code, txq := withHeadSid s.txq ((s.txq.head?.map (·.msg.sid)).getD 0#8)
      frame := { s.frame with data := withDataByte s.frame.data 1 b } }
  | .sync =>
    let t := s.seqNext.atStep .s3 (.read 1 s.env.now)
    { t with env := { t.env with lineRx := b :: s.env.lineRx.drop 1 } }
  | .char5 =>
    let a := match decode .char5 bs with
      | .ok (.addr5 a, _) => a
      | _ => 0#7
    { s.seqNext.atStep .s1 .start with hsAddr := 0#1 ++ a }
  | .key1 => { s.seqNext.atStep .s5 .key1 with hsKb := [b, s.hsKb.getD 1 0#8] }
  | .key2 => { s.seqNext.atStep .s5 .key2 with hsKb := [s.hsKb.getD 0 0#8, b] }
  | .complement => { s.seqNext.atStep .s6 (.wait s.env.now) with hsKb := [s.hsKb.getD 0 0#8, complement b] }
  | .addrComplement =>
    let t := s.seqNext.atStep .s7 (.read 1 s.env.now)
    { t with env := { t.env with lineRx := b :: s.env.lineRx.drop 1 } }
  | .wakeup => s.seqNext.atStep .f1 .start
  | .command => { s with lock := .none, env := { s.env with sched := .host b bs.tail :: s.env.sched } }

end Sys2Proof.Machine
end

