-- ==== Sys2Proof/Machine/Schedule.lean ====
section
/-! DEFINITION. One step of each agent (00_scope.md R6, 20_memory.md R94), as the front move of the schedule asks (log 1). -/

namespace Sys2Proof.Machine

/-- The front move of the schedule is done. -/
def State.popMove (s : State) : State := { s with env := { s.env with sched := s.env.sched.tail } }

/-- A move is put at the front of the schedule. -/
def State.pushMove (s : State) (m : Move) : State := { s with env := { s.env with sched := m :: s.env.sched } }

/-- The sequencer's next micro-step: the meaning of the item at its position, or the micro-step the loop has there. -/
def seqStep (s : State) : Result :=
  match s.fetch with
  | some (p, bs) =>
    match decode p bs with
    | .ok (i, _) => exec i s
    | .error _ => s.internal
  | none => s.internal

/-- The sequencer moves; where it waits the clock runs to the instant it waits for (log 2). -/
def seqMoves (s : State) : Result := if s.enabled then seqStep s else .next s.autoTick

/-- `SEQ`'s turn: a micro-step, or one turn of the busy-wait (42_handshake.md R238). -/
def seqTurn (s : State) : Result := if s.popMove.enabled then seqStep s.popMove else .next s.popMove

/-- `CLK`'s turn, `tick(dt)` (41_timing_engine.md R181). While a read is pending the clock does not pass its end: a read
that is over returns first, and a longer tick is cut at the deadline (20_memory.md R82, log 16). -/
def clkTurn (s : State) (dt : Nat) : Result :=
  match s.micro.pending with
  | none => .next (s.popMove.tick dt)
  | some (n, t) =>
    if s.readReady n t then seqStep s
    else if t - s.env.now < dt then
      .next ((s.popMove.pushMove (.tick (dt - (t - s.env.now)))).tick (t - s.env.now))
    else .next (s.popMove.tick dt)

/-- `LINE` receives bytes (R82). -/
def lineTurn (s : State) (bytes : List Byte) : Result :=
  .next { s.popMove with env := { s.popMove.env with lineRx := s.env.lineRx ++ bytes } }

/-- `LINE` settles how it answers the next read (R82, log 8). -/
def answerTurn (s : State) (a : ReadAns) : Result :=
  .next { s.popMove with env := { s.popMove.env with readAns := a } }

/-- `LINE` settles how many bytes of the next write it takes (R83, log 8). -/
def capTurn (s : State) (n : Nat) : Result :=
  .next { s.popMove with env := { s.popMove.env with writeCap := some n } }

/-- `HOST`'s turn: the command at its port (44_host_commands.md R311). A locked command waits for the lock, and the
sequencer moves meanwhile. Operand bytes that cannot be read are refused (log 10). -/
def hostTurn (s : State) (code : Byte) (operands : List Byte) : Result :=
  match decode .command (code :: operands) with
  | .ok (i, _) => if locked i && s.lock != .none then seqMoves s else exec i s
  | .error _ => .next (s.refuse code .badOperand)

/-- The place and the bytes of a table word (log 17): the place of the instruction the decoder reads from it. -/
def State.presentWord (s : State) (nbits w : Nat) : State :=
  let bs := tableBytes nbits w
  match decodeTableWord nbits w with
  | some i => s.present i.port bs
  | none => s.present (tablePort (bs.headD 0#8)) bs

end Sys2Proof.Machine
end

