-- ==== Sys2Proof/Machine/Step.lean ====
section
/-! DEFINITION. The step of the machine: the front move of the schedule, or with none left the sequencer's
(20_memory.md R94, log 1, log 2). -/

namespace Sys2Proof.Machine

/-- One step. -/
def step (s : State) : Host.Outcome State Fault Refusal :=
  match s.env.sched with
  | [] => seqMoves s
  | .seq :: _ => seqTurn s
  | .tick dt :: _ => clkTurn s dt
  | .line bytes :: _ => lineTurn s bytes
  | .answer a :: _ => answerTurn s a
  | .capWrite n :: _ => capTurn s n
  | .host code operands :: _ => hostTurn s code operands

/-- The state in which the next step runs the instruction of the table word `w` (log 17). -/
def State.withFetchWord (s : State) (nbits w : Nat) : State := s.presentWord nbits w

end Sys2Proof.Machine
end

