-- ==== Sys2Proof/Safety.lean ====
section
/-! DEFINITION. What claims about the machine speak of: the connection state's transitions (43_message_interface.md R252),
the cleared state (60_exceptions.md R346), the positions the rules give the sequencer, and the invariant: 10_state.md
R52 (i) to (vii) with what keeps it inductive. -/

namespace Sys2Proof

/-- R52 (ii), the source's timing invariant. -/
def TimingSet.enforced (t : TimingSet) : Bool :=
  t.p2min + Fixed.margin ≤ t.p2max && t.p3min + Fixed.margin ≤ t.p3max && t.p4min ≤ t.p3min

namespace Machine

/-- The transitions of `CONN_STATE` (R252). A TERMINATE outside Disconnected passes through Disconnected inside its one
step (R314). -/
def connEdge : ConnState → ConnState → Bool
  | .disconnected, .connectionPending => true
  | .connectionPending, .connected => true
  | .connectionPending, .disconnected => true
  | .connected, .disconnectionPending => true
  | .connected, .disconnected => true
  | .disconnectionPending, .disconnected => true
  | .disconnected, .communicationTerminated => true
  | .connectionPending, .communicationTerminated => true
  | .connected, .communicationTerminated => true
  | .disconnectionPending, .communicationTerminated => true
  | _, _ => false

/-- What R346 clears, but for the queue, `IGNORE_CNT` and the timing set: so it stays through Disconnected and through a
handshake run. -/
def State.Quiet (s : State) : Prop :=
  s.rxbuf = [] ∧ s.rxDirty = false ∧ s.p1Flush = false ∧ s.echoFifo = [] ∧ s.foundEcho = false
    ∧ s.expecting = false ∧ s.respCount = 0 ∧ s.unsolicited = 0 ∧ s.unanswered = 0
    ∧ s.swP1 = ⟨false, 0⟩ ∧ s.swP2 = ⟨false, 0⟩ ∧ s.swP3 = ⟨false, 0⟩ ∧ s.swDisc = ⟨false, 0⟩
    ∧ s.keyByte1 = 0#8 ∧ s.keyByte2 = 0#8 ∧ s.keyValid = false

/-- At `start` or in `wait_until`. -/
def Micro.startOrWait : Micro → Bool
  | .start => true
  | .wait _ => true
  | _ => false

/-- In a read of one byte. -/
def Micro.readsOne : Micro → Bool
  | .read n _ => n == 1
  | _ => false

/-- In the second read of S3. -/
def Micro.rereadsOne : Micro → Bool
  | .reread n _ => n == 1
  | _ => false

/-- In a slot of S1. -/
def Micro.inSlot : Micro → Bool
  | .slot k _ => 1 ≤ k && k ≤ 10
  | _ => false

/-- In the last-chance read of S4, for the bytes missing to two when `n` are there. -/
def Micro.lastChance (n : Nat) : Micro → Bool
  | .reread k _ => n + k == 2
  | _ => false

/-- In the flush. -/
def Micro.flushing : Micro → Bool
  | .flush _ => true
  | _ => false

/-- In a probe read. -/
def Micro.probing : Micro → Bool
  | .probe1 _ => true
  | .probe3 _ => true
  | _ => false

/-- In `wait_until`. -/
def Micro.waiting : Micro → Bool
  | .wait _ => true
  | _ => false

/-- The sequencer is in a transmission (43_message_interface.md R286, R385). -/
def Micro.sending : Micro → Bool
  | .send => true
  | .pace _ _ => true
  | _ => false

/-- The positions of a handshake step `h`, with how many key bytes `n` there are (R46) and the verdict `kind` on them. -/
def hsPlaced (h : HsStep) (n : Nat) (kind : HsKind) (m : Micro) : Bool :=
  match h with
  | .idle => m == .start || m == .test
  | .s0 => n == 0 && m.startOrWait
  | .s1 => n == 0 && (m == .start || m.inSlot)
  | .s2 => n == 0 && m == .start
  | .s3 => n == 0 && (m == .start || m.readsOne || m.rereadsOne)
  | .s4 => (n == 0 && m == .start) || (n ≤ 1 && (m.readsOne || m.lastChance n))
  | .s5 => n == 2 && (m == .start || m == .key1 || m == .key2)
  | .s6 => n == 2 && kind != .none && (m.startOrWait || m.readsOne)
  | .s7 => n == 2 && kind == .kwp2000 && (m == .start || m.readsOne)
  | .s8 => n == 2 && kind == .kwp2000 && m == .start
  | .sLegacy => n == 2 && kind == .legacy && m == .start
  | .f0 => m == .start
  | .f1 => m.startOrWait
  | .f2 => m.startOrWait
  | .f3 => m.startOrWait
  | .f4 => m == .start
  | .f5 => m == .start || m.sending

/-- The positions the rules give the sequencer: what `PHASE`, `HS_STEP` and the model's `micro` can be together. -/
def State.placed (s : State) : Bool :=
  match s.phase with
  | .a => hsPlaced s.hsStep s.hsKb.length s.hsKind s.micro
  | .b => s.hsStep == .idle && s.micro == .start
  | .c => s.hsStep == .idle && (s.micro == .start || s.micro.flushing || s.micro == .dispatch || s.micro == .code)
  | .d =>
    s.hsStep == .idle && (s.micro == .start || s.micro.probing || s.micro == .checkP2 || s.micro == .checkP3
      || s.micro == .checkDisc)
  | .e => s.hsStep == .idle && (s.micro == .start || s.micro.sending)
  | .sleep => s.hsStep == .idle && s.micro.waiting

/-- The sequencer stands between two iterations: in SLEEP, or before phase A has taken the lock (20_memory.md R93). -/
def State.between (s : State) : Bool := s.phase == .sleep || s.wantsLock

/-- The positions that only an iteration over a live connection reaches. -/
def State.deep (s : State) : Bool :=
  s.phase == .b || s.micro.flushing || s.micro == .dispatch || s.micro == .code || s.micro.probing || s.micro.sending

/-- `BREAK_OUT` may be true here: in the slots of S1 before the stop bit, in F2, and at the start of F3 (10_state.md R49,
42_handshake.md R215, R232, R233). -/
def State.mayBreak (s : State) : Bool :=
  match s.hsStep, s.micro with
  | .s1, .slot k _ => k != 10
  | .f2, _ => true
  | .f3, .start => true
  | _, _ => false

/-- The invariant. The fields named after items of R52 are that rule's; the others say where the sequencer can stand and
what holds there. -/
structure State.Inv (s : State) : Prop where
  cfg : s.cfg.ok = true
  /-- R52 (i) -/
  rxbufCap : s.rxbuf.length ≤ s.cfg.rxbufCap
  /-- R52 (i) -/
  txqCap : s.txq.length ≤ s.cfg.txqCap
  /-- R52 (i) -/
  echoCap : s.echoFifo.length ≤ Fixed.maxFrame
  /-- R36 -/
  ignoreCap : s.ignoreCnt ≤ 255
  /-- R52 (ii) -/
  tpDefault : s.tpDefault.enforced = true ∧ s.tpDefault.fits = true
  /-- R52 (ii) -/
  tpCurrent : s.tpCurrent.enforced = true ∧ s.tpCurrent.fits = true
  /-- R52 (ii) -/
  tpLimits : s.tpLimits.enforced = true ∧ s.tpLimits.fits = true
  /-- R29 -/
  p2maxEff : s.p2maxEff = s.tpCurrent.p2max ∨ s.p2maxEff = s.tpCurrent.p3max
  /-- R52 (iii) -/
  expecting : s.expecting = true → ∃ e q, s.txq = e :: q ∧ 1 ≤ e.attempts
  /-- R52 (iv), of every position, not only the start of an iteration; CommunicationTerminated the same -/
  disconnected : s.connState = .disconnected ∨ s.connState = .communicationTerminated →
    s.Quiet ∧ s.txq = [] ∧ s.ignoreCnt = 0
  /-- R52 (v); `HS_STEP` by `placed` -/
  breakOut : s.breakOut = true → s.mayBreak = true
  /-- R52 (vi) -/
  swP1 : s.swP1.running = true → s.rxbuf ≠ []
  /-- R52 (vii) -/
  keyBit7 : s.keyByte1.getLsbD 7 = false ∧ s.keyByte2.getLsbD 7 = false
  /-- R41 -/
  unsolicited : s.unsolicited < Fixed.maxUnsolicited
  /-- R42 -/
  unanswered : s.unanswered < Fixed.maxUnanswered
  /-- R345: "it is 0 after a successful connection" -/
  attempts : s.connState = .connected ∨ s.connState = .disconnectionPending ∨ s.connState = .communicationTerminated →
    s.attemptsLeft = 0
  /-- R155: only serializable messages are queued -/
  queue : ∀ e ∈ s.txq, serializable e.msg = true
  placed : s.placed = true
  /-- R48, R93 -/
  lock : s.lock = if s.between then .none else .seq
  run : s.hsStep ≠ .idle → s.connState = .connectionPending ∧ s.Quiet
  deep : s.deep = true → s.iterates = true
  /-- R283 -/
  sending : s.micro.sending = true → s.txq ≠ [] ∧ s.echoFifo = [] ∧ s.expecting = false
  code : s.micro = .code → s.expecting = true
  terminated : s.connState = .communicationTerminated → s.phase = .a ∨ s.phase = .sleep

/-- R346 read as one update of the state: the common end of DISCONNECT, of a failed handshake and of supervision, where the
connection is not already down. -/
def State.cleared (s : State) : State :=
  { s with
    events := s.events ++ failEvents s.txq ++ [.connStateChanged s.connState .disconnected]
    txq := [], rxbuf := [], rxDirty := false, p1Flush := false
    echoFifo := [], ignoreCnt := 0, foundEcho := false, expecting := false, respCount := 0
    unsolicited := 0, unanswered := 0
    swP1 := ⟨false, 0⟩, swP2 := ⟨false, 0⟩, swP3 := ⟨false, 0⟩, swDisc := ⟨false, 0⟩
    keyByte1 := 0#8, keyByte2 := 0#8, keyValid := false
    tpCurrent := s.tpDefault, p2maxEff := s.tpDefault.p2max
    connState := .disconnected }

/-- R263 with R266 (garbage), read as one update: one byte dropped, the framing error raised; when that empties the buffer
P1 is reset and, with a response expected, P2 restarted. The scan goes on. -/
def State.dropped (s : State) (kind : FrameKind) : State :=
  { s with
    rxbuf := s.rxbuf.tail
    events := s.events ++ [.framingError kind]
    swP1 := if s.rxbuf.tail = [] then ⟨false, 0⟩ else s.swP1
    swP2 := if s.rxbuf.tail = [] ∧ s.expecting = true then ⟨true, 0⟩ else s.swP2
    micro := .start }

/-- R265 up to the dispatch, with R266 (frame), read as one update: the frame of the message `m` is taken from the buffer
with the `k` bytes before it, `rest` stays. -/
def State.framed (s : State) (m : Message) (k : Nat) (rest : List Byte) : State :=
  { s with
    rxbuf := rest
    events := s.events ++ (if 0 < k then [.garbageDiscarded k] else [])
    p2maxEff := s.tpCurrent.p2max
    swP1 := if rest = [] then ⟨false, 0⟩ else s.swP1
    swP2 := if rest = [] then ⟨true, 0⟩ else s.swP2
    swP3 := if rest = [] then ⟨true, 0⟩ else s.swP3
    frame := m
    micro := .dispatch }

/-- The transmitted frame's effect (R286), read as one update: `bytes` is what was written for the head entry `e`. -/
def State.transmitted (s : State) (e : Entry) (q : List Entry) (bytes : List Byte) : State :=
  { s with
    txq := { e with attempts := e.attempts + 1 } :: q
    echoFifo := s.echoFifo ++ bytes
    foundEcho := false
    expecting := true
    p2maxEff := s.tpCurrent.p2max
    swP2 := ⟨true, 0⟩
    swP3 := ⟨true, 0⟩
    events := s.events ++ [.messageSent e.msg (e.attempts + 1)] }

/-- The end of an iteration (R250): the lock is free and the sequencer sleeps. -/
def State.asleep (s : State) : State :=
  { s with phase := .sleep, lock := .none, micro := .wait (s.env.now + s.cfg.pollSleep) }

/-- A matched response sets both supervision counters back (R274). -/
def State.answered (s : State) : State := { s with micro := .start, unsolicited := 0, unanswered := 0 }

/-- A line call made now. -/
def State.called (s : State) (c : LineCall) : State :=
  { s with env := { s.env with lineLog := s.env.lineLog ++ [⟨s.env.now, c⟩] } }

/-- A `LineWrite` of `bytes` that returned `n`. -/
def State.wrote (s : State) (bytes : List Byte) (n : Nat) : State :=
  { s with env := { s.env with lineLog := s.env.lineLog ++ [⟨s.env.now, .write bytes n⟩], writeCap := none } }

/-- A `LineRead` has returned (R82) and left `rest` in the line. -/
def State.took (s : State) (rest : List Byte) : State :=
  { s with env := { s.env with lineRx := rest, readAns := .normal } }

/-- A `LineRead` has failed (R333): no byte, an event; the bytes stay in the line (log 8). -/
def State.readFailed (s : State) : State :=
  { s with events := s.events ++ [.transportError .read 0], env := { s.env with readAns := .normal } }

/-- The sequencer waits for the instant `t`, which has not come: in a `wait_until` (00_scope.md R10), or in a `LineRead` of
`n` bytes with deadline `t` that the line answers normally and that lacks bytes (R82). -/
def State.waitsUntil (s : State) (t : Nat) : Prop :=
  s.env.now < t
    ∧ (s.micro = .wait t ∨ (∃ k, s.micro = .slot k t) ∨ (∃ k, s.micro = .pace k t)
      ∨ (s.env.readAns = .normal
        ∧ ((∃ n, s.env.lineRx.length < n ∧ (s.micro = .read n t ∨ s.micro = .reread n t))
          ∨ (s.env.lineRx = [] ∧ (s.micro = .probe1 t ∨ s.micro = .probe3 t)))))

/-- The time has come to `t` (R181), and nothing else has changed. -/
def State.waitedTo (s : State) (t : Nat) : State :=
  { s with
    swP1 := if s.swP1.running then ⟨true, s.swP1.elapsed + (t - s.env.now)⟩ else s.swP1
    swP2 := if s.swP2.running then ⟨true, s.swP2.elapsed + (t - s.env.now)⟩ else s.swP2
    swP3 := if s.swP3.running then ⟨true, s.swP3.elapsed + (t - s.env.now)⟩ else s.swP3
    swDisc := if s.swDisc.running then ⟨true, s.swDisc.elapsed + (t - s.env.now)⟩ else s.swDisc
    env := { s.env with now := t } }

/-- A command's result (R310); the command is no longer at the port. -/
def State.replied (s : State) (r : Reply) : State :=
  { s with env := { s.env with sched := s.env.sched.tail, replies := s.env.replies ++ [r] } }

/-- A refusal (R341): an event, a result, no change of state. -/
def State.refused (s : State) (code : Byte) (reason : RefuseReason) : State :=
  { s with
    events := s.events ++ [.commandRefused code reason]
    env := { s.env with sched := s.env.sched.tail, replies := s.env.replies ++ [.refused reason] } }

/-- The bytes of a frame before its checksum, in the order of R110: format byte, target and source when there are
addresses, length byte when the form has one, service id, data. -/
def Form.body (f : Form) (dst src sid : Byte) (data : List Byte) : List Byte :=
  f.byte :: (if f.code.addrs = 1 then [dst, src] else [])
    ++ (if f.il = 0#6 then [BitVec.ofNat 8 (1 + data.length)] else []) ++ sid :: data

/-- The frame (R110, R117). -/
def Form.frame (f : Form) (dst src sid : Byte) (data : List Byte) : List Byte :=
  f.body dst src sid data ++ [checksum (f.body dst src sid data)]

/-- The form can carry the data (R114): its inline length is the wire length, or a length byte can hold it. The reserved
code carries none (R120). -/
def Form.carries (f : Form) (data : List Byte) : Bool :=
  f.code != .reserved && (if f.il = 0#6 then decide (data.length ≤ 254) else f.il.toNat == 1 + data.length)

/-- The message of a frame (R116). -/
def Form.message (f : Form) (dst src sid : Byte) (data : List Byte) : Message where
  mode := f.code.mode
  src := if f.code.addrs = 1 then src else 0#8
  dst := if f.code.addrs = 1 then dst else 0#8
  sid := sid
  data := data
  maxRetries := 0

/-- The service ids the block interprets (R276, R281). -/
def ownedSid (c : Config) (sid : Byte) : Bool :=
  sid == c.sidStartComm || sid == c.sidStopComm || sid == c.sidTesterPresent

/-- A line record that is a write. -/
def LineRec.isWrite (r : LineRec) : Bool :=
  match r.call with
  | .write _ _ => true
  | _ => false

end Machine

/-- The header form of a row of format FMT (R113); none for the rows of the other formats. -/
def Instr.form (i : Instr) : Option Machine.Form :=
  match i with
  | .h1x => some ⟨.none, 0#6⟩
  | .h1i l => some ⟨.none, l⟩
  | .hrv l => some ⟨.reserved, l⟩
  | .h3px => some ⟨.physical, 0#6⟩
  | .h3pi l => some ⟨.physical, l⟩
  | .h3fx => some ⟨.functional, 0#6⟩
  | .h3fi l => some ⟨.functional, l⟩
  | _ => none

/-- The response code of a row of format NRC (R123); none for the rows of the other formats. -/
def Instr.responseCode (i : Instr) : Option Byte :=
  match i with
  | .responsePending => some 0x78#8
  | .busyRepeatRequest => some 0x21#8
  | .otherCode c => some c
  | _ => none

end Sys2Proof
end

