-- ==== Sys2Proof/Certificates/Slice0/Obligations.lean ====
section
/-! DEFINITION. The statements for the provers. "Log <n>" is notes/assumptions/<n>.md; "D<n>" is a decision of
spec/92_eei_decisions.md, which the spec marks as its own. -/

section

open Sys2Proof Sys2Proof.Machine

/-! ### Encoding -/

/-- Decoding the bytes of a well-formed item, at the place it stands at and with anything behind them, gives the item and
what stood behind. The operand bytes of a host command are the model's layout (log 10, log 11). -/
def Obligations.DecodeOfEncode : Prop :=
  ∀ (i : Instr) (r : List Byte), i.wf = true → decode i.port (encode i ++ r) = .ok (i, r)

/-- Words written out from the tables of spec/30_encoding.md, one or more of every format, decode to the items they stand
for. -/
def Obligations.DecodeSanityWords : Prop :=
  decode .header [0b00000000#8] = .ok (.h1x, [])
    ∧ decode .header [0b00000101#8] = .ok (.h1i 5#6, [])
    ∧ decode .header [0b01000000#8] = .ok (.hrv 0#6, [])
    ∧ decode .header [0b10000001#8] = .ok (.h3pi 1#6, [])
    ∧ decode .header [0b11000000#8] = .ok (.h3fx, [])
    ∧ decode (.service .rx) [0xC1#8] = .ok (.startCommunicationPos .rx, [])
    ∧ decode (.service .tx) [0xB7#8] = .ok (.vendorDataLoggingDefineReq .tx, [])
    ∧ decode (.service .rx) [0x7F#8] = .ok (.negativeResponse .rx, [])
    ∧ decode (.service .rx) [0x40#8] = .ok (.anyResponse 0x40#8 .rx, [])
    ∧ decode .code [0x78#8] = .ok (.responsePending, [])
    ∧ decode .code [0x21#8] = .ok (.busyRepeatRequest, [])
    ∧ decode .code [0x11#8] = .ok (.otherCode 0x11#8, [])
    ∧ decode .sync [0x55#8] = .ok (.sync, [])
    ∧ decode .key1 [0b11101111#8] = .ok (.kb1 true true false true true 0b11#2, [])
    ∧ decode .key2 [0x8F#8] = .ok (.kb2 true 0x0F#7, [])
    ∧ decode .command [0x02#8] = .ok (.disconnect, [])
    ∧ decode .command [0x09#8] = .ok (.unassigned 0x09#8, [])

/-! ### Frame codec -/

/-- R151: the checksum is the low byte of the exact sum of the unsigned bytes. -/
def Obligations.ChecksumIsSumModulo256 : Prop :=
  ∀ bs : List Byte, (checksum bs).toNat = (bs.map BitVec.toNat).sum % 256

/-- R152, R155 (D9, D10): a message is serialized exactly when it is serializable, and then as the frame of the inline form
up to wire length 63 and of the form with a length byte from 64 on; the frame has 3 to 260 bytes (R118). -/
def Obligations.SerializeLayout : Prop :=
  ∀ m : Message,
    (serializable m = true ↔ m.data.length ≤ 254 ∧ (m.mode = .none → m.src = 0#8 ∧ m.dst = 0#8))
      ∧ (serializable m = false → serialize m = none)
      ∧ (serializable m = true → ∃ f : Form,
          f.code = AddrCode.ofMode m.mode ∧ f.carries m.data = true
            ∧ (m.data.length ≤ 62 → f.il ≠ 0#6) ∧ (63 ≤ m.data.length → f.il = 0#6)
            ∧ serialize m = some (f.frame m.dst m.src m.sid m.data)
            ∧ 3 ≤ (f.frame m.dst m.src m.sid m.data).length ∧ (f.frame m.dst m.src m.sid m.data).length ≤ 260)

/-- R160, the source's frame round-trip: parsing what was serialized, with any bytes behind it, gives the message back and
takes exactly the frame. -/
def Obligations.ParseOfSerialize : Prop :=
  ∀ (cap : Nat) (m : Message) (f rest : List Byte), 260 ≤ cap → serialize m = some f →
    ∃ m', parseFrame cap (f ++ rest) 0 = .message m' f.length ∧ m'.same m = true

/-- R161: one byte changed, and neither the format byte nor the length byte, is an invalid checksum, always. -/
def Obligations.CorruptedByteIsDetected : Prop :=
  ∀ (cap : Nat) (m : Message) (f : List Byte) (k : Nat) (b : Byte), 260 ≤ cap → serialize m = some f →
    k < f.length → f[k]? ≠ some b → k ≠ 0 → (63 ≤ m.data.length → k ≠ (if m.mode = .none then 1 else 3)) →
    parseFrame cap (f.set k b) 0 = .invalidChecksum

/-- R162: a proper prefix of a frame asks for more bytes, at least one, and the empty one for nothing. -/
def Obligations.PrefixNeedsMoreBytes : Prop :=
  ∀ (cap : Nat) (m : Message) (f : List Byte) (k : Nat), 260 ≤ cap → serialize m = some f → k < f.length →
    if k = 0 then parseFrame cap (f.take k) 0 = .noData
    else ∃ n, 1 ≤ n ∧ n ≤ f.length - k ∧ parseFrame cap (f.take k) 0 = .notEnoughData n

/-- R116, R117, R156: at any offset, a parsed message is the one of a frame that stands there whole, its checksum right,
and fits the buffer. -/
def Obligations.ParsedMessageIsAFrame : Prop :=
  ∀ (cap : Nat) (buf : List Byte) (off : Nat) (m : Message) (n : Nat), parseFrame cap buf off = .message m n →
    ∃ (f : Form) (dst src sid : Byte) (data rest : List Byte),
      f.carries data = true ∧ buf.drop off = f.frame dst src sid data ++ rest ∧ m = f.message dst src sid data
        ∧ n = (f.frame dst src sid data).length ∧ off + n ≤ cap

/-! ### Timing sets and clock -/

/-- R186: the fields ENFORCE computes, the ones it keeps, the postcondition, and idempotence. -/
def Obligations.EnforcePostcondition : Prop :=
  ∀ t : TimingSet,
    (enforce t).p1max = t.p1max ∧ (enforce t).p2min = t.p2min ∧ (enforce t).p4min = t.p4min
      ∧ (enforce t).p2max = max t.p2max (t.p2min + 13)
      ∧ (enforce t).p3min = max t.p3min t.p4min
      ∧ (enforce t).p3max = max t.p3max (max t.p3min t.p4min + 13)
      ∧ (enforce t).p2min + 13 ≤ (enforce t).p2max ∧ (enforce t).p3min + 13 ≤ (enforce t).p3max
      ∧ (enforce t).p4min ≤ (enforce t).p3min
      ∧ enforce (enforce t) = enforce t
      ∧ (t.legal = true → (enforce t).fits = true)

/-- R181 (D2), R82: a tick adds to the time and to the running stopwatches and changes nothing else of the block. While a
read is pending it does not pass the read's deadline: a read that is over returns first, and a longer tick is cut there
(log 16, the model's reading of R82). The line's moves, bytes received and its answers to come (log 8), change nothing of
the block either (the moves are the model's, log 1). -/
def Obligations.TickAdvancesRunningStopwatches : Prop :=
  ∀ (s : State) (ms : List Move),
    (∀ dt, s.env.sched = .tick dt :: ms →
      ((s.micro.pending = none ∨ (∃ n t, s.micro.pending = some (n, t) ∧ s.env.readAns = .normal
          ∧ s.env.lineRx.length < n ∧ s.env.now < t ∧ s.env.now + dt ≤ t)) →
        step s = .next { s with
          swP1 := if s.swP1.running then ⟨true, s.swP1.elapsed + dt⟩ else s.swP1
          swP2 := if s.swP2.running then ⟨true, s.swP2.elapsed + dt⟩ else s.swP2
          swP3 := if s.swP3.running then ⟨true, s.swP3.elapsed + dt⟩ else s.swP3
          swDisc := if s.swDisc.running then ⟨true, s.swDisc.elapsed + dt⟩ else s.swDisc
          env := { s.env with now := s.env.now + dt, sched := ms } })
        ∧ (∀ n t, s.micro.pending = some (n, t) →
            (s.env.readAns ≠ .normal ∨ n ≤ s.env.lineRx.length ∨ t ≤ s.env.now → step s = seqStep s)
              ∧ (s.env.readAns = .normal → s.env.lineRx.length < n → s.env.now < t → t < s.env.now + dt →
                  step s = .next { s.waitedTo t with
                    env := { s.env with now := t, sched := .tick (s.env.now + dt - t) :: ms } })))
      ∧ (∀ bs, s.env.sched = .line bs :: ms →
          step s = .next { s with env := { s.env with lineRx := s.env.lineRx ++ bs, sched := ms } })
      ∧ (∀ a, s.env.sched = .answer a :: ms →
          step s = .next { s with env := { s.env with readAns := a, sched := ms } })
      ∧ (∀ n, s.env.sched = .capWrite n :: ms →
          step s = .next { s with env := { s.env with writeCap := some n, sched := ms } })

/-! ### Format FMT: receiving a frame -/

/-- R262, R265, R266, R158: where the scan meets the format byte of a complete frame of one of the six header forms, the
frame's bytes are taken from `RXBUF`, the bytes behind it stay, the timers are set and the message waits for its
dispatch. -/
def Obligations.CompleteFrameIsReceived : Prop :=
  ∀ (i : Instr) (f : Form) (s : State) (dst src sid : Byte) (data rest : List Byte),
    i.form = some f → f.carries data = true → 260 ≤ s.cfg.rxbufCap → s.micro.flushing = false →
    s.rxbuf = f.frame dst src sid data ++ rest →
    exec i s = .next (s.framed (f.message dst src sid data) 0 rest)

/-- R263 with R120, R156, R157: a format byte with the reserved address mode, a declared length of zero, or a complete
frame with a wrong checksum costs exactly one byte and a framing error. -/
def Obligations.MalformedFrameDropsOneByte : Prop :=
  ∀ (i : Instr) (f : Form) (s : State), i.form = some f → s.micro.flushing = false →
    (f.code = .reserved → s.rxbuf ≠ [] → exec i s = .next (s.dropped .noData))
      ∧ (f.code ≠ .reserved → f.il = 0#6 → s.rxbuf[1 + 2 * f.code.addrs]? = some 0#8 →
          exec i s = .next (s.dropped .noData))
      ∧ (∀ (dst src sid c : Byte) (data rest : List Byte), f.carries data = true → 260 ≤ s.cfg.rxbufCap →
          c ≠ checksum (f.body dst src sid data) → s.rxbuf = f.body dst src sid data ++ c :: rest →
          exec i s = .next (s.dropped .invalidChecksum))

/-- R262, R162, R261, R250: a proper prefix of a frame stays in `RXBUF` and the scan ends until more bytes arrive; so it
does with an empty buffer; and with nothing to scan and no flush pending phase C is over. -/
def Obligations.IncompleteFrameWaits : Prop :=
  (∀ (i : Instr) (f : Form) (s : State) (dst src sid : Byte) (data : List Byte) (k : Nat),
      i.form = some f → f.carries data = true → 260 ≤ s.cfg.rxbufCap → s.micro.flushing = false →
      1 ≤ k → k < (f.frame dst src sid data).length → s.rxbuf = (f.frame dst src sid data).take k →
      exec i s = .next { s with rxDirty := false, micro := .start })
    ∧ (∀ s : State, s.phase = .c → s.micro = .start → s.p1Flush = false →
        (s.rxDirty = true → s.rxbuf = [] → seqStep s = .next { s with rxDirty := false })
          ∧ (s.rxDirty = false → seqStep s = .next { s with phase := .d }))

/-- R261, R264, R266, R158 (D13): the flush takes a complete frame behind `k` bytes of garbage together with them, goes on at
the next offset where the codec finds none, and at the end of the buffer discards all that is left. -/
def Obligations.FlushTakesFrameBehindGarbage : Prop :=
  (∀ (i : Instr) (f : Form) (s : State) (dst src sid : Byte) (data g rest : List Byte),
      i.form = some f → f.carries data = true → s.micro = .flush g.length →
      s.rxbuf = g ++ f.frame dst src sid data ++ rest → g.length + (f.frame dst src sid data).length ≤ s.cfg.rxbufCap →
      exec i s = .next (s.framed (f.message dst src sid data) g.length rest))
    ∧ (∀ (i : Instr) (f : Form) (s : State) (k : Nat), i.form = some f → s.micro = .flush k →
        s.rxbuf[k]? = some f.byte → (∀ m n, parseFrame s.cfg.rxbufCap s.rxbuf k ≠ .message m n) →
        exec i s = .next { s with micro := .flush (k + 1) })
    ∧ (∀ s : State, s.phase = .c → s.micro = .start → s.p1Flush = true → seqStep s = .next { s with micro := .flush 0 })
    ∧ (∀ (s : State) (k : Nat), s.phase = .c → s.micro = .flush k → s.rxbuf.length ≤ k →
        seqStep s = .next { s with
          micro := .start
          p1Flush := false
          rxDirty := false
          rxbuf := []
          events := s.events ++ (if s.rxbuf = [] then [] else [.garbageFlushed s.rxbuf.length])
          swP1 := if s.rxbuf = [] then s.swP1 else ⟨false, 0⟩
          swP2 := if s.rxbuf ≠ [] ∧ s.expecting = true then ⟨true, 0⟩ else s.swP2 })

/-- R255, R258, R189, R84, R256 (D5, D15, D22, D23): what a read returns goes through the echo filter; of the data it
leaves, what fits is appended, P1 restarts and P2 stops, and the newest bytes that do not fit are lost and reported; with
a full buffer nothing is appended and the stopwatches stay. With no echo outstanding every byte is data. Phase B reads
once, all that waits. A failed read counts as no bytes (R333); that it leaves the waiting bytes in the line is the model's
choice, unsafe (log 8). -/
def Obligations.ReceivedBytesAreAppended : Prop :=
  ∀ s : State,
    (∀ (r r' : List Byte) (t : State), echoFilter r s = (r', t) →
      (r' = [] → s.receive r = t)
        ∧ (r' ≠ [] → t.rxbuf.length < t.cfg.rxbufCap →
            s.receive r = { t with
              rxbuf := (t.rxbuf ++ r').take t.cfg.rxbufCap
              rxDirty := true
              events := t.events ++ (if t.cfg.rxbufCap < t.rxbuf.length + r'.length then
                [.bufferOverflow (t.rxbuf.length + r'.length - t.cfg.rxbufCap)] else [])
              swP1 := ⟨true, 0⟩
              swP2 := ⟨false, t.swP2.elapsed⟩ })
        ∧ (r' ≠ [] → t.cfg.rxbufCap ≤ t.rxbuf.length →
            s.receive r = { t with events := t.events ++ [.bufferOverflow r'.length] }))
      ∧ (∀ bs : List Byte, s.echoFifo = [] → bs ≠ [] → s.rxbuf.length < s.cfg.rxbufCap →
      s.receive bs = { s with
        rxbuf := (s.rxbuf ++ bs).take s.cfg.rxbufCap
        rxDirty := true
        events := s.events ++ (if s.cfg.rxbufCap < s.rxbuf.length + bs.length then
          [.bufferOverflow (s.rxbuf.length + bs.length - s.cfg.rxbufCap)] else [])
        swP1 := ⟨true, 0⟩
        swP2 := ⟨false, s.swP2.elapsed⟩ })
      ∧ (s.phase = .b → s.micro = .start →
          (s.env.lineRx = [] → seqStep s = .next { s with phase := .c, micro := .start })
            ∧ (s.env.lineRx ≠ [] → s.env.readAns ≠ .fail →
                seqStep s = .next { (s.took []).receive s.env.lineRx with phase := .c, micro := .start })
            ∧ (s.env.lineRx ≠ [] → s.env.readAns = .fail →
                seqStep s = .next { s.readFailed with phase := .c, micro := .start }))

/-- R258 (D23): with no echo outstanding all is data. The echo of a transmitted frame is removed, whatever follows it is
data; a read may be split anywhere; a byte of an echo that goes on only shortens it and ends the ignoring; and a byte that
is not the echo, with none left to ignore, ends the echo tracking and is data with all that follow. -/
def Obligations.EchoIsRemoved : Prop :=
  ∀ s : State,
    (∀ ds : List Byte, s.echoFifo = [] → echoFilter ds s = (ds, s))
      ∧ (∀ (x y : Byte) (xs ds : List Byte), s.echoFifo = x :: y :: xs →
          echoFilter (x :: ds) s = echoFilter ds { s with echoFifo := y :: xs, ignoreCnt := 0 })
      ∧ (∀ ds : List Byte, s.echoFifo ≠ [] → echoFilter (s.echoFifo ++ ds) s =
          (ds, { s with echoFifo := [], ignoreCnt := 0, foundEcho := true }))
      ∧ (∀ a b : List Byte, echoFilter (a ++ b) s =
          ((echoFilter a s).1 ++ (echoFilter b (echoFilter a s).2).1, (echoFilter b (echoFilter a s).2).2))
      ∧ (∀ (x b : Byte) (xs ds : List Byte), s.echoFifo = x :: xs → b ≠ x → s.ignoreCnt = 0 →
          echoFilter (b :: ds) s = (b :: ds, { s with
            echoFifo := [], ignoreCnt := 0, foundEcho := false, events := s.events ++ [.echoMismatch (x :: xs) b] }))
      ∧ (∀ (x b : Byte) (xs ds : List Byte), s.echoFifo = x :: xs → b ≠ x → 0 < s.ignoreCnt →
          echoFilter (b :: ds) s = echoFilter ds { s with ignoreCnt := s.ignoreCnt - 1 })

/-! ### Format SID: dispatch of a received message -/

/-- R271 (D24): a message in mode Functional, or Physical to another address, or with a request's service id, is reported
as ignored and changes nothing else. Every row of format SID. -/
def Obligations.UnacceptableMessageIsIgnored : Prop :=
  ∀ (i : Instr) (b : Byte) (s : State), i.service = some (b, .rx) →
    (s.frame.mode = .functional ∨ (s.frame.mode = .physical ∧ s.frame.dst ≠ s.cfg.testerAddr) ∨ b.getLsbD 6 = false) →
    exec i s = .next { s with micro := .start, events := s.events ++ [.messageIgnored { s.frame with sid := b }] }

/-- R273: an accepted response that matches no outstanding request is counted and reported; the fifth in a row forces a
disconnect. Every row of format SID. -/
def Obligations.UnsolicitedResponseCounts : Prop :=
  ∀ (i : Instr) (b : Byte) (s : State), i.service = some (b, .rx) → accepted s.cfg { s.frame with sid := b } = true →
    (s.expecting = false ∨ ∃ e q, s.txq = e :: q ∧ b ≠ e.msg.sid ||| 0x40#8
      ∧ ¬(b = s.cfg.sidNegResp ∧ s.frame.data.head? = some e.msg.sid)) →
    if s.unsolicited + 1 < 5 then
      exec i s = .next { s with
        micro := .start
        unsolicited := s.unsolicited + 1
        events := s.events ++ [.unsolicitedResponse { s.frame with sid := b }] }
    else
      exec i s = .next (({ s with
        micro := .start
        unsolicited := s.unsolicited + 1
        events := s.events ++ [.unsolicitedResponse { s.frame with sid := b }] } : State).forceDisconnect .unsolicited)

/-- R276, R274 (D26, D24): the positive response to the outstanding request is forwarded to the host with the request, but
for TesterPresent, whose response is swallowed; both supervision counters go back to 0. Every row of format SID that
is a response. -/
def Obligations.PositiveResponseIsForwarded : Prop :=
  ∀ (i : Instr) (b : Byte) (s : State) (e : Entry) (q : List Entry), i.service = some (b, .rx) →
    accepted s.cfg { s.frame with sid := b } = true → s.expecting = true → s.txq = e :: q →
    b = e.msg.sid ||| 0x40#8 → e.msg.sid ≠ s.cfg.sidStartComm → e.msg.sid ≠ s.cfg.sidStopComm →
    exec i s = .next { s.answered with
      respCount := s.respCount + 1
      events := if e.msg.sid = s.cfg.sidTesterPresent then s.events
        else s.events ++ [.messageReceived { s.frame with sid := b } e.msg] }

/-- R277, R276 (D37): the positive response to StartCommunication gives the key bytes, and during a fast-init it makes the
connection. -/
def Obligations.StartCommunicationPositiveConnects : Prop :=
  ∀ (i : Instr) (b : Byte) (s : State) (e : Entry) (q : List Entry), i.service = some (b, .rx) →
    accepted s.cfg { s.frame with sid := b } = true → s.expecting = true → s.txq = e :: q →
    b = e.msg.sid ||| 0x40#8 → e.msg.sid = s.cfg.sidStartComm →
    exec i s = .next { s.answered with
      respCount := s.respCount + 1
      keyByte1 := if 2 ≤ s.frame.data.length then s.frame.data.getD 0 0#8 &&& 0x7F#8 else s.keyByte1
      keyByte2 := if 2 ≤ s.frame.data.length then s.frame.data.getD 1 0#8 &&& 0x7F#8 else s.keyByte2
      keyValid := if 2 ≤ s.frame.data.length then true else s.keyValid
      commAddr := if s.connState = .connectionPending then s.hsAddr else s.commAddr
      attemptsLeft := if s.connState = .connectionPending then 0 else s.attemptsLeft
      connState := if s.connState = .connectionPending then .connected else s.connState
      swP3 := if s.connState = .connectionPending then ⟨true, 0⟩ else s.swP3
      events := s.events
        ++ (if s.connState = .connectionPending then [.connStateChanged .connectionPending .connected] else [])
        ++ (if e.internal then [] else [.messageReceived { s.frame with sid := b } e.msg]) }

/-- R278: the positive response to StopCommunication ends the connection, whatever its state. -/
def Obligations.StopCommunicationPositiveDisconnects : Prop :=
  ∀ (i : Instr) (b : Byte) (s : State) (e : Entry) (q : List Entry), i.service = some (b, .rx) →
    accepted s.cfg { s.frame with sid := b } = true → s.expecting = true → s.txq = e :: q →
    b = e.msg.sid ||| 0x40#8 → e.msg.sid ≠ s.cfg.sidStartComm → e.msg.sid = s.cfg.sidStopComm →
    exec i s = .next (({ s.answered with
      respCount := s.respCount + 1
      events := s.events ++ (if e.internal then [] else [.messageReceived { s.frame with sid := b } e.msg]) } :
        State).enterDisconnected .cleanDisconnect)

/-- R274, R275 (D24): a negative response that names the outstanding request and carries a response code is a match; the
code is the next item. -/
def Obligations.NegativeResponseGoesToItsCode : Prop :=
  ∀ (i : Instr) (b c : Byte) (ds : List Byte) (s : State) (e : Entry) (q : List Entry), i.service = some (b, .rx) →
    accepted s.cfg { s.frame with sid := b } = true → s.expecting = true → s.txq = e :: q →
    b ≠ e.msg.sid ||| 0x40#8 → b = s.cfg.sidNegResp → s.frame.data = e.msg.sid :: c :: ds →
    exec i s = .next { s.answered with frame := { s.frame with sid := b }, micro := .code }

/-! ### Format NRC: response codes -/

/-- R279 (D17): ResponsePending extends the wait to `P3max` and is reported. Every row of format NRC whose code is the
instance's. -/
def Obligations.ResponsePendingExtendsTheWait : Prop :=
  ∀ (i : Instr) (c : Byte) (s : State), i.responseCode = some c → c = s.cfg.rcResponsePending →
    exec i s = .next { s with
      micro := .start
      p2maxEff := s.tpCurrent.p3max
      events := s.events ++ [.responsePendingSeen s.frame] }

/-- R280 (D21): Busy-RepeatRequest takes the attempt back, ends the wait and is reported; the entry stays at the head. -/
def Obligations.BusyGivesTheAttemptBack : Prop :=
  ∀ (i : Instr) (c : Byte) (s : State) (e : Entry) (q : List Entry), i.responseCode = some c →
    c ≠ s.cfg.rcResponsePending → c = s.cfg.rcBusy → s.txq = e :: q →
    exec i s = .next { s with
      micro := .start
      txq := { e with attempts := e.attempts - 1 } :: q
      expecting := false
      swP2 := ⟨false, 0⟩
      events := s.events ++ [.busySeen s.frame] }

/-- R282: every other negative response is forwarded to the host, the code in the message, and counted as a response:
with a code, at the code; without one, at the service id. -/
def Obligations.OtherNegativeResponseIsForwarded : Prop :=
  ∀ (i : Instr) (c : Byte) (s : State) (e : Entry) (q : List Entry), s.txq = e :: q →
    ownedSid s.cfg e.msg.sid = false →
    (i.responseCode = some c → c ≠ s.cfg.rcResponsePending → c ≠ s.cfg.rcBusy →
      exec i s = .next { s with
        micro := .start
        respCount := s.respCount + 1
        events := s.events ++ [.messageReceived s.frame e.msg] })
      ∧ (i.service = some (c, .rx) → accepted s.cfg { s.frame with sid := c } = true → s.expecting = true →
          c ≠ e.msg.sid ||| 0x40#8 → c = s.cfg.sidNegResp → s.frame.data = [e.msg.sid] →
          exec i s = .next { s.answered with
            respCount := s.respCount + 1
            events := s.events ++ [.messageReceived { s.frame with sid := c } e.msg] })

/-- R281 (D25), R275, R123 (D24): a rejected StartCommunication or StopCommunication forces a disconnect, a rejected
TesterPresent is swallowed: with a response code, at the code; without one, at the service id. -/
def Obligations.OwnedServiceRejected : Prop :=
  ∀ (i : Instr) (c : Byte) (s t : State) (e : Entry) (q : List Entry), s.txq = e :: q →
    (i.responseCode = some c ∧ c ≠ s.cfg.rcResponsePending ∧ c ≠ s.cfg.rcBusy ∧ t = { s with micro := .start }
      ∨ i.service = some (c, .rx) ∧ accepted s.cfg { s.frame with sid := c } = true ∧ s.expecting = true
        ∧ c ≠ e.msg.sid ||| 0x40#8 ∧ c = s.cfg.sidNegResp ∧ s.frame.data = [e.msg.sid] ∧ t = s.answered) →
    (e.msg.sid = s.cfg.sidStartComm → exec i s = .next (t.forceDisconnect .startCommRejected))
      ∧ (e.msg.sid ≠ s.cfg.sidStartComm → e.msg.sid = s.cfg.sidTesterPresent →
          exec i s = .next { t with respCount := s.respCount + 1 })
      ∧ (e.msg.sid ≠ s.cfg.sidStartComm → e.msg.sid ≠ s.cfg.sidTesterPresent → e.msg.sid = s.cfg.sidStopComm →
          exec i s = .next (t.forceDisconnect .stopCommRejected))

/-! ### Format SID: transmission of the head of the queue -/

/-- R286, R284 (D15): the head entry's frame is written whole, its echo and a response are expected, the attempt is
charged, P2 and P3 restart, and the iteration is over. That `RESP_COUNT` stays is the model's reading (log 21), and the
write takes no time of its own (log 26). Every row of format SID. -/
def Obligations.HeadFrameIsTransmitted : Prop :=
  ∀ (i : Instr) (s : State) (e : Entry) (q : List Entry) (f : List Byte), i.service = some (e.msg.sid, .tx) →
    s.txq = e :: q → serialize e.msg = some f → s.cfg.txPaceP4 = false → s.hsStep ≠ .f5 →
    (s.env.writeCap = none ∨ ∃ c, s.env.writeCap = some c ∧ f.length ≤ c) →
    exec i s = .next (((s.transmitted e q f).wrote f f.length).asleep)

/-- R289, R286 (D22): a short write charges the attempt and reports the failure; no echo and no response is expected and
no timer is restarted (how much of a write the line takes is a move of the model's, log 8). -/
def Obligations.ShortWriteOnlyChargesTheAttempt : Prop :=
  ∀ (i : Instr) (s : State) (e : Entry) (q : List Entry) (f : List Byte) (n : Nat),
    i.service = some (e.msg.sid, .tx) → s.txq = e :: q → serialize e.msg = some f → s.cfg.txPaceP4 = false →
    s.hsStep ≠ .f5 → s.env.writeCap = some n → n < f.length →
    exec i s = .next ((({ s with
      txq := { e with attempts := e.attempts + 1 } :: q
      events := s.events ++ [.transportError .write n] } : State).wrote f n).asleep)

/-- R235, R286, R289, R385 (D38, D43): in step F5 the StartCommunication request is put at the head of the queue, or the run
fails where the queue is full; then it goes out without the gate, whole or paced, the handshake steps are over and the
connection stays pending; a short write fails the run. The positions between paced bytes are the model's (log 4), as is what
a cut paced write reports, the bytes written so far (log 8). -/
def Obligations.FastInitRequestIsSent : Prop :=
  (∀ s : State, s.phase = .a → s.hsStep = .f5 → s.micro = .start →
      (s.txq.length < s.cfg.txqCap →
        seqStep s = .next { s with
          micro := .send
          txq := ⟨{ mode := s.cfg.startcommMode
                    src := if s.cfg.startcommMode = .none then 0#8 else s.cfg.testerAddr
                    dst := if s.cfg.startcommMode = .none then 0#8 else s.hsAddr
                    sid := s.cfg.sidStartComm, data := [], maxRetries := 0 }, 0, false, true⟩ :: s.txq })
        ∧ (s.cfg.txqCap ≤ s.txq.length → seqStep s = .next (s.hsFail .queueFull)))
    ∧ (∀ (i : Instr) (s : State) (e : Entry) (q : List Entry) (f : List Byte), i.service = some (e.msg.sid, .tx) →
        s.txq = e :: q → serialize e.msg = some f → s.hsStep = .f5 →
        (s.cfg.txPaceP4 = false →
          ((s.env.writeCap = none ∨ ∃ c, s.env.writeCap = some c ∧ f.length ≤ c) →
            exec i s = .next { (s.transmitted e q f).wrote f f.length with hsStep := .idle, micro := .test })
            ∧ (∀ n, s.env.writeCap = some n → n < f.length →
                exec i s = .next ((({ s with
                  txq := { e with attempts := e.attempts + 1 } :: q
                  events := s.events ++ [.transportError .write n] } : State).wrote f n).hsFail .transport)))
          ∧ (∀ k : Nat, s.cfg.txPaceP4 = true → (s.micro = .send ∧ k = 0 ∨ ∃ t, s.micro = .pace k t) →
              (s.env.writeCap ≠ some 0 → k + 1 < f.length →
                exec i s = .next { s.wrote [f.getD k 0#8] 1 with
                  micro := .pace (k + 1) (s.env.now + 1000 * s.tpCurrent.p4min) })
                ∧ (s.env.writeCap ≠ some 0 → k + 1 = f.length →
                    exec i s = .next { (s.transmitted e q f).wrote [f.getD k 0#8] 1 with
                      hsStep := .idle, micro := .test })
                ∧ (s.env.writeCap = some 0 → k < f.length →
                    exec i s = .next ((({ s with
                      txq := { e with attempts := e.attempts + 1 } :: q
                      events := s.events ++ [.transportError .write k] } :
                        State).wrote [f.getD k 0#8] 0).hsFail .transport))))

/-- R385, R289 (D43, D22): with `TX_PACE_P4` the frame goes out byte by byte, each `P4min` after the one before; the last
completes the transmission; a byte that is not taken charges the attempt and ends it. The positions between the bytes are
the model's (log 4), as is what a cut write reports, the bytes written so far (log 8). In step F5 see
FastInitRequestIsSent. -/
def Obligations.PacedFrameGoesByteByByte : Prop :=
  ∀ (i : Instr) (s : State) (e : Entry) (q : List Entry) (f : List Byte) (k : Nat),
    i.service = some (e.msg.sid, .tx) → s.txq = e :: q → serialize e.msg = some f → s.cfg.txPaceP4 = true →
    s.hsStep ≠ .f5 → (s.micro = .send ∧ k = 0 ∨ ∃ t, s.micro = .pace k t) →
    (s.env.writeCap ≠ some 0 → k + 1 < f.length →
      exec i s = .next { s.wrote [f.getD k 0#8] 1 with
        micro := .pace (k + 1) (s.env.now + 1000 * s.tpCurrent.p4min) })
      ∧ (s.env.writeCap ≠ some 0 → k + 1 = f.length →
          exec i s = .next (((s.transmitted e q f).wrote [f.getD k 0#8] 1).asleep))
      ∧ (s.env.writeCap = some 0 → k < f.length →
          exec i s = .next ((({ s with
            txq := { e with attempts := e.attempts + 1 } :: q
            events := s.events ++ [.transportError .write k] } : State).wrote [f.getD k 0#8] 0).asleep))

/-! ### Format HS: handshakes -/

/-- R253, R211, R250, R212 (D28, D33, D36, D40): a run begins in phase A when the connection is down and attempts remain: one
attempt is charged and the state of the run is set up. Where none begins, or one is over, the state test follows: phase B
in the three live states, else the sleep, after which phase A begins again. Step S0 releases the line, sets the rate and
waits; chained, it keeps the rate and waits for the inter-init delay. -/
def Obligations.HandshakeRunBegins : Prop :=
  ∀ s : State,
    (∀ n : Nat, s.phase = .a → s.hsStep = .idle → s.micro = .start → s.connState = .disconnected →
      s.attemptsLeft = n + 1 →
      seqStep s = .next { s with
        lock := .seq
        attemptsLeft := n
        connState := .connectionPending
        events := s.events ++ [.connStateChanged .disconnected .connectionPending]
        hsAddr := s.initAddr
        hsKb := []
        hsKind := .none
        hsChained := false
        hsStep := if s.connMode = .slowInit then .s0 else .f0
        micro := .start })
      ∧ (s.phase = .a → s.hsStep = .idle → s.micro = .start → (s.connState ≠ .disconnected ∨ s.attemptsLeft = 0) →
          seqStep s = .next { s with lock := .seq, micro := .test })
      ∧ (s.phase = .a → s.hsStep = .idle → s.micro = .test →
          seqStep s = .next (if s.connState = .disconnected ∨ s.connState = .communicationTerminated then s.asleep
            else { s with phase := .b, micro := .start }))
      ∧ (∀ t, s.phase = .sleep → s.micro = .wait t → seqStep s = .next { s with phase := .a, micro := .start })
      ∧ (s.phase = .a → s.hsStep = .s0 → s.micro = .start → s.hsChained = false →
          seqStep s = .next { (s.called (.setBreak false)).called (.setBaud s.cfg.slowInitBaud) with
            breakOut := false, baud := s.cfg.slowInitBaud, micro := .wait (s.env.now + s.cfg.slowIdle) })
      ∧ (s.phase = .a → s.hsStep = .s0 → s.micro = .start → s.hsChained = true →
          seqStep s = .next { s.called (.setBreak false) with
            breakOut := false, micro := .wait (s.env.now + s.cfg.interInitDelay) })
      ∧ (∀ t, s.phase = .a → s.hsStep = .s0 → s.micro = .wait t →
          seqStep s = .next { s with hsStep := .s1, micro := .start })

/-- R213, R125, R216 (D33, D34): step S1 meets the character of the low seven bits of `HS_ADDR`. Each of its ten slots begins
at its time against `HS_T0` with its level on the line, after the last step S2 begins, which purges the line; the levels
are start bit 0, the seven bits lowest first, odd parity, stop bit 1. -/
def Obligations.AddressCharacterSlots : Prop :=
  ∀ (a : BitVec 7) (s : State),
    (s.phase = .a → s.hsStep = .s1 → (s.micro = .start ∨ ∃ k t, s.micro = .slot k t) →
      s.fetch = some (.char5, encode (.addr5 (s.hsAddr.extractLsb' 0 7))))
      ∧ (s.micro = .start →
          exec (.addr5 a) s = .next { s.called (.setBreak true) with
            hsT0 := s.env.now, breakOut := true, micro := .slot 1 (s.env.now + tbit s.cfg) })
      ∧ (∀ k t, s.micro = .slot k t → k < 10 →
          exec (.addr5 a) s = .next { s.called (.setBreak (!level5 a k)) with
            breakOut := !level5 a k, micro := .slot (k + 1) (s.hsT0 + (k + 1) * tbit s.cfg) })
      ∧ (∀ k t, s.micro = .slot k t → 10 ≤ k → exec (.addr5 a) s = .next { s with hsStep := .s2, micro := .start })
      ∧ (s.phase = .a → s.hsStep = .s2 → s.micro = .start →
          seqStep s = .next { s.called (.purge true true) with
            hsStep := .s3, micro := .start
            env := { (s.called (.purge true true)).env with lineRx := [] } })
      ∧ level5 a 0 = false ∧ level5 a 9 = true ∧ (∀ j, j < 7 → level5 a (j + 1) = a.getLsbD j)
      ∧ (ones (bits7 a) + (level5 a 8).toNat) % 2 = 1 ∧ (tbit s.cfg : Int) = max 0 (200000 + s.cfg.slowOffset)

/-- R217, R218, R219 (D34): step S3 reads one byte; the sync byte ends the step, with the rate as it is; otherwise, another
byte or none in time, the rate is toggled and the second read begins, after which another byte or none fails the run. A
failed read fails it at once (R237, R333, R82); that it leaves the waiting bytes in the line is the model's choice, unsafe
(log 8). -/
def Obligations.SyncByteEndsTheSearch : Prop :=
  ∀ s : State,
    (s.phase = .a → s.hsStep = .s3 → s.micro = .start →
      seqStep s = .next { s with micro := .read 1 (s.env.now + s.cfg.syncTimeout) })
      ∧ (∀ b r t, s.phase = .a → s.hsStep = .s3 → (s.micro = .read 1 t ∨ s.micro = .reread 1 t) →
          s.env.readAns ≠ .fail → s.env.lineRx = b :: r → s.fetch = some (.sync, [b]))
      ∧ (∀ r : List Byte, s.env.readAns ≠ .fail → s.env.lineRx = 0x55#8 :: r →
          exec .sync s = .next { s.took r with hsStep := .s4, micro := .start })
      ∧ (∀ t, s.phase = .a → s.hsStep = .s3 → s.micro = .read 1 t → s.env.readAns ≠ .fail →
          s.env.lineRx.head? ≠ some 0x55#8 →
          seqStep s = .next {
            (s.took s.env.lineRx.tail).called (.setBaud (if s.baud = 9600#32 then 10400#32 else 9600#32)) with
            baud := if s.baud = 9600#32 then 10400#32 else 9600#32
            micro := .reread 1 (s.env.now + s.cfg.syncTimeout) })
      ∧ (∀ t, s.phase = .a → s.hsStep = .s3 → s.micro = .reread 1 t → s.env.readAns ≠ .fail →
          s.env.lineRx.head? ≠ some 0x55#8 → seqStep s = .next ((s.took s.env.lineRx.tail).hsFail .noSync))
      ∧ (∀ t, s.phase = .a → s.hsStep = .s3 → (s.micro = .read 1 t ∨ s.micro = .reread 1 t) → s.env.readAns = .fail →
          seqStep s = .next (s.readFailed.hsFail .transport))

/-- R220, R221, R222, R223 (D34, D36, D37): step S4 reads the two key bytes, each with its own timeout, and when one is
missing makes one last read of what is missing with twice the timeout; with fewer than two the run fails, as with a failed
read (R237, R333, R82); that this leaves the waiting bytes in the line is the model's choice, unsafe (log 8). Step S5 tests the legacy pair first. Key byte 1 is valid when its parity is odd, if that is checked, bit 6 is set,
not both timing bits are set and at least one header bit is. -/
def Obligations.KeyByte1Verdict : Prop :=
  ∀ s : State,
    (s.phase = .a → s.hsStep = .s4 →
      (s.micro = .start → seqStep s = .next { s with hsKb := [], micro := .read 1 (s.env.now + s.cfg.kbTimeout) })
        ∧ (∀ t b r, s.micro = .read 1 t → s.env.readAns ≠ .fail → s.env.lineRx = b :: r →
            (s.hsKb = [] → seqStep s = .next { s.took r with
              hsKb := [b], micro := .read 1 (s.env.now + s.cfg.kbTimeout) })
              ∧ (∀ k, s.hsKb = [k] → seqStep s = .next { s.took r with
                  hsKb := [k, b], hsStep := .s5, micro := .start }))
        ∧ (∀ t, s.micro = .read 1 t → s.env.readAns ≠ .fail → s.env.lineRx = [] →
            seqStep s = .next { s.took [] with
              micro := .reread (2 - s.hsKb.length) (s.env.now + 2 * s.cfg.kbTimeout) })
        ∧ (∀ n t, s.micro = .reread n t → s.env.readAns ≠ .fail →
            (2 ≤ (s.hsKb ++ s.env.lineRx.take n).length →
              seqStep s = .next { s.took (s.env.lineRx.drop n) with
                hsKb := s.hsKb ++ s.env.lineRx.take n, hsStep := .s5, micro := .start })
              ∧ ((s.hsKb ++ s.env.lineRx.take n).length < 2 →
                  seqStep s = .next (({ s.took (s.env.lineRx.drop n) with
                    hsKb := s.hsKb ++ s.env.lineRx.take n } : State).hsFail .noKeyBytes)))
        ∧ (∀ n t, (s.micro = .read n t ∨ s.micro = .reread n t) → s.env.readAns = .fail →
            seqStep s = .next (s.readFailed.hsFail .transport)))
      ∧ (∀ k1 k2, s.phase = .a → s.hsStep = .s5 → s.hsKb = [k1, k2] →
          (s.micro = .start →
            seqStep s = .next (if (k1, k2) = s.cfg.legacyKb then
              { s with hsKind := .legacy, hsStep := .s6, micro := .start } else { s with micro := .key1 }))
            ∧ (s.micro = .key1 → s.fetch = some (.key1, [k1])
                ∧ (k1.getLsbD 6 = false → seqStep s = .next (s.hsFail .badKeyBytes))))
      ∧ (∀ (p t u h b : Bool) (x : BitVec 2),
          exec (.kb1 p t u h b x) s =
            if (s.cfg.checkKbParity = true → ones (bits8 (kb1Byte p t u h b x)) % 2 = 1) ∧ ¬(t = true ∧ u = true)
                ∧ (h = true ∨ b = true) then
              .next { s with micro := .key2 }
            else .next (s.hsFail .badKeyBytes))

/-- R224, R222 (D36): key byte 2 is valid unless its parity is checked and even; with it the session is KWP2000 and step S6
begins; else the run fails. -/
def Obligations.KeyByte2Verdict : Prop :=
  ∀ s : State,
    (∀ k1 k2, s.phase = .a → s.hsStep = .s5 → s.hsKb = [k1, k2] → s.micro = .key2 → s.fetch = some (.key2, [k2]))
      ∧ (∀ (p : Bool) (x : BitVec 7),
          if s.cfg.checkKbParity = true → ones (bits8 (kb2Byte p x)) % 2 = 1 then
            exec (.kb2 p x) s = .next { s with hsKind := .kwp2000, hsStep := .s6, micro := .start }
          else exec (.kb2 p x) s = .next (s.hsFail .badKeyBytes))

/-- R225, R127 (D35): after `W4_DELAY` the byte step S6 meets is the complement of key byte 2; it is written, then its echo is
awaited if that is to be verified, and another byte, none, or a failed read fails the run; else the next step begins; a
short write fails the run (R237; the event is the model's, log 14). That a failed read (R333, R82) leaves the waiting bytes
in the line is the model's choice, unsafe (log 8). -/
def Obligations.ComplementIsSent : Prop :=
  ∀ s : State,
    (s.phase = .a → s.hsStep = .s6 → s.micro = .start →
      seqStep s = .next { s with micro := .wait (s.env.now + s.cfg.w4Delay) })
      ∧ (∀ t k, s.phase = .a → s.hsStep = .s6 → s.micro = .wait t → s.hsKb[1]? = some k →
          s.fetch = some (.complement, [0xFF#8 - k]))
      ∧ (∀ n, s.env.writeCap ≠ some 0 → s.cfg.verifyComplementEcho = true →
          exec (.kb2Complement n) s = .next { s.wrote [n] 1 with
            micro := .read 1 (s.env.now + s.cfg.complTimeout) })
      ∧ (∀ n, s.env.writeCap ≠ some 0 → s.cfg.verifyComplementEcho = false →
          exec (.kb2Complement n) s = .next { s.wrote [n] 1 with
            hsStep := if s.hsKind = .kwp2000 then .s7 else .sLegacy, micro := .start })
      ∧ (∀ n, s.env.writeCap = some 0 →
          exec (.kb2Complement n) s = .next
            (({ s.wrote [n] 0 with events := s.events ++ [.transportError .write 0] } : State).hsFail .transport))
      ∧ (∀ t k, s.phase = .a → s.hsStep = .s6 → s.micro = .read 1 t → s.hsKb[1]? = some k →
          (∀ r, s.env.readAns ≠ .fail → s.env.lineRx = (0xFF#8 - k) :: r →
            seqStep s = .next { s.took r with
              hsStep := if s.hsKind = .kwp2000 then .s7 else .sLegacy, micro := .start })
            ∧ (s.env.readAns ≠ .fail → s.env.lineRx.head? ≠ some (0xFF#8 - k) →
                seqStep s = .next ((s.took s.env.lineRx.tail).hsFail .complementEcho))
            ∧ (s.env.readAns = .fail → seqStep s = .next (s.readFailed.hsFail .transport)))

/-- R229, R127 (D35): step S7 reads one byte, which must be the complement of the whole address; another, none in time, or a
failed read (R237, R333, R82) fails the run; that the last leaves the waiting bytes in the line is the model's choice,
unsafe (log 8). -/
def Obligations.AddressComplementVerdict : Prop :=
  ∀ s : State,
    (s.phase = .a → s.hsStep = .s7 →
      (s.micro = .start → seqStep s = .next { s with micro := .read 1 (s.env.now + s.cfg.complTimeout) })
        ∧ (∀ t n r, s.micro = .read 1 t → s.env.readAns ≠ .fail → s.env.lineRx = n :: r →
            s.fetch = some (.addrComplement, [n]))
        ∧ (∀ t, s.micro = .read 1 t → s.env.readAns ≠ .fail → s.env.lineRx = [] →
            seqStep s = .next ((s.took []).hsFail .addressComplement))
        ∧ (∀ t, s.micro = .read 1 t → s.env.readAns = .fail → seqStep s = .next (s.readFailed.hsFail .transport)))
      ∧ (∀ (n : Byte) (r : List Byte), s.env.readAns ≠ .fail → s.env.lineRx = n :: r →
          exec (.addrComplement n) s =
            if n = 0xFF#8 - s.hsAddr then .next { s.took r with hsStep := .s8, micro := .start }
            else .next ((s.took r).hsFail .addressComplement))

/-- R228, R226, R227 (D28, D36): the ends of a slow-init. Step S8 makes the connection. Step S_LEGACY chains a second slow-init
at the second address, once, without charging an attempt; without one, or chained already, the run fails. -/
def Obligations.SlowInitSucceeds : Prop :=
  ∀ s : State, s.phase = .a → s.micro = .start →
    (∀ k1 k2 : Byte, s.hsStep = .s8 → s.hsKb = [k1, k2] →
      seqStep s = .next { s with
        keyByte1 := k1 &&& 0x7F#8
        keyByte2 := k2 &&& 0x7F#8
        keyValid := true
        commAddr := s.hsAddr
        attemptsLeft := 0
        connState := .connected
        events := s.events ++ [.connStateChanged .connectionPending .connected]
        swP3 := ⟨true, 0⟩
        hsStep := .idle
        micro := .test })
      ∧ (∀ a : Byte, s.hsStep = .sLegacy → s.secondAddr = some a → s.hsChained = false →
          seqStep s = .next { s with
            hsChained := true, hsAddr := a, hsKb := [], hsKind := .none, hsStep := .s0, micro := .start })
      ∧ (s.hsStep = .sLegacy → (s.secondAddr = none ∨ s.hsChained = true) →
          seqStep s = .next (s.hsFail .legacyProtocol))

/-- R230 to R234, R128 (D38): step F0 releases the line and sets the rate; the wake-up pattern is 2600 ms idle, then low for
`FAST_LOW` and high for `FAST_HIGH`, both edges placed against `HS_T0`; step F4 purges the receive side and sets how many
bytes before the echo are ignored. -/
def Obligations.FastWakeupLevels : Prop :=
  ∀ s : State,
    (s.phase = .a → s.hsStep = .f0 → s.micro = .start →
      seqStep s = .next { (s.called (.setBreak false)).called (.setBaud s.cfg.fastBaud) with
        breakOut := false, baud := s.cfg.fastBaud, hsStep := .f1, micro := .start })
      ∧ (s.phase = .a → (s.hsStep = .f1 ∨ s.hsStep = .f2 ∨ s.hsStep = .f3) →
          (s.micro = .start ∨ ∃ t, s.micro = .wait t) → s.fetch = some (.wakeup, encode .fastWakeup))
      ∧ (s.hsStep = .f1 → s.micro = .start →
          exec .fastWakeup s = .next { s with micro := .wait (s.env.now + 2600000) })
      ∧ (∀ t, s.hsStep = .f1 → s.micro = .wait t →
          exec .fastWakeup s = .next { s with hsStep := .f2, micro := .start })
      ∧ (s.hsStep = .f2 → s.micro = .start →
          exec .fastWakeup s = .next { s.called (.setBreak true) with
            hsT0 := s.env.now, breakOut := true, micro := .wait (s.env.now + s.cfg.fastLow) })
      ∧ (∀ t, s.hsStep = .f2 → s.micro = .wait t →
          exec .fastWakeup s = .next { s with hsStep := .f3, micro := .start })
      ∧ (s.hsStep = .f3 → s.micro = .start →
          exec .fastWakeup s = .next { s.called (.setBreak false) with
            breakOut := false, micro := .wait (s.hsT0 + s.cfg.fastLow + s.cfg.fastHigh) })
      ∧ (∀ t, s.hsStep = .f3 → s.micro = .wait t →
          exec .fastWakeup s = .next { s with hsStep := .f4, micro := .start })
      ∧ (s.phase = .a → s.hsStep = .f4 → s.micro = .start →
          seqStep s = .next { s.called (.purge true false) with
            ignoreCnt := s.cfg.fastIgnore, hsStep := .f5, micro := .start
            env := { (s.called (.purge true false)).env with lineRx := [] } })

/-- R237, R346: a failed run releases the line, reports the cause, clears everything the disconnect clears and is over. -/
def Obligations.FailedRunClearsEverything : Prop :=
  ∀ (s : State) (c : HsCause), s.connState = .connectionPending →
    s.hsFail c = { ({ s.called (.setBreak false) with
        breakOut := false, events := s.events ++ [.handshakeFailed c] } : State).cleared with
      hsStep := .idle, micro := .test }

/-! ### Format CMD: host commands -/

/-- R312 (D28): CONNECT stores its operands in Disconnected, with at least one attempt; else it is refused (which reason
comes first is log 15). -/
def Obligations.ConnectCommand : Prop :=
  ∀ (s : State) (mode : ConnMode) (addr : Byte) (second : Option Byte) (n : Nat),
    if s.connState ≠ .disconnected then exec (.connect mode addr second n) s = .next (s.refused 0x01#8 .wrongState)
    else if n = 0 then exec (.connect mode addr second n) s = .next (s.refused 0x01#8 .badOperand)
    else
      exec (.connect mode addr second n) s = .next (({ s with
        connMode := mode, initAddr := addr, secondAddr := second, attemptsLeft := n } : State).replied .ok)

/-- R313 (D29): DISCONNECT by state; in Connected the StopCommunication request goes to the tail of the queue, if it has
room, and the 5000 ms bound starts (both also with a full queue: the model's reading of R340, log 27). -/
def Obligations.DisconnectCommand : Prop :=
  ∀ s : State,
    (s.connState = .disconnected → exec .disconnect s = .next (({ s with attemptsLeft := 0 } : State).replied .ok))
      ∧ (s.connState = .connectionPending →
          exec .disconnect s = .next ((({ s with attemptsLeft := 0 } : State).cleared).replied .ok))
      ∧ (s.connState = .connected →
          exec .disconnect s = .next (({ s with
            attemptsLeft := 0
            connState := .disconnectionPending
            events := s.events ++ [.connStateChanged .connected .disconnectionPending]
            txq := if s.txq.length < s.cfg.txqCap then
                s.txq ++ [⟨{ mode := s.cfg.keepaliveMode
                             src := if s.cfg.keepaliveMode = .none then 0#8 else s.cfg.testerAddr
                             dst := if s.cfg.keepaliveMode = .none then 0#8 else s.commAddr
                             sid := s.cfg.sidStopComm, data := [], maxRetries := 0 }, 0, false, true⟩]
              else s.txq
            swDisc := ⟨true, 0⟩ } : State).replied .ok))
      ∧ (s.connState = .disconnectionPending → exec .disconnect s = .next (s.replied .ok))
      ∧ (s.connState = .communicationTerminated → exec .disconnect s = .next (s.refused 0x02#8 .wrongState))

/-- R314 (D30): TERMINATE clears a live connection, with the queue failed, and ends in CommunicationTerminated; there it
does nothing. -/
def Obligations.TerminateCommand : Prop :=
  ∀ s : State,
    (s.connState = .communicationTerminated → exec .terminate s = .next (s.replied .ok))
      ∧ (s.connState = .disconnected →
          exec .terminate s = .next (({ s with
            attemptsLeft := 0
            connState := .communicationTerminated
            events := s.events ++ [.connStateChanged .disconnected .communicationTerminated] } : State).replied .ok))
      ∧ (s.connState ≠ .communicationTerminated → s.connState ≠ .disconnected →
          exec .terminate s = .next (({ s.cleared with
            attemptsLeft := 0
            connState := .communicationTerminated
            events := s.cleared.events ++ [.connStateChanged .disconnected .communicationTerminated] } :
              State).replied .ok))

/-- R316 (D18): ENQUEUE's refusals in their order, else the entry at the tail. -/
def Obligations.EnqueueCommand : Prop :=
  ∀ (s : State) (m : Message) (probe : Bool),
    if s.connState ≠ .connectionPending ∧ s.connState ≠ .connected then
      exec (.enqueue m probe) s = .next (s.refused 0x04#8 .wrongState)
    else if serializable m = false then exec (.enqueue m probe) s = .next (s.refused 0x04#8 .notSerializable)
    else if s.cfg.txqCap ≤ s.txq.length then exec (.enqueue m probe) s = .next (s.refused 0x04#8 .queueFull)
    else
      exec (.enqueue m probe) s = .next
        (({ s with txq := s.txq ++ [⟨m, 0, probe, false⟩] } : State).replied .ok)

/-- R315, R317, R187 (D42): the timing commands, refused in CommunicationTerminated, with `WrongState` also where a field is
out of range (which reason comes first is the model's, log 15); every set written has passed ENFORCE (the copied one by
the invariant). -/
def Obligations.TimingCommands : Prop :=
  ∀ (s : State) (which : WhichTiming) (tp : TimingSet),
    (s.connState = .communicationTerminated →
      exec (.setTiming which tp) s = .next (s.refused 0x05#8 .wrongState)
        ∧ exec .resetTiming s = .next (s.refused 0x06#8 .wrongState))
      ∧ (s.connState ≠ .communicationTerminated →
          (tp.legal = false → exec (.setTiming which tp) s = .next (s.refused 0x05#8 .badOperand))
            ∧ (tp.legal = true → exec (.setTiming which tp) s = .next (({ s with
                tpDefault := if which = .default then enforce tp else s.tpDefault
                tpCurrent := if which = .current then enforce tp else s.tpCurrent
                tpLimits := if which = .limits then enforce tp else s.tpLimits
                p2maxEff := if which = .current then (enforce tp).p2max else s.p2maxEff } : State).replied .ok))
            ∧ exec .resetTiming s = .next (({ s with
                tpCurrent := s.tpDefault, p2maxEff := s.tpDefault.p2max } : State).replied .ok))

/-- R318, R319, R320 (D31): SET_BAUD sets a rate that is not 0, refused in CommunicationTerminated, with `WrongState` also
where the rate is 0 (which reason comes first is the model's, log 15); READ_STATUS answers the element's value, element by
element, and it and a code with no row change no state. -/
def Obligations.BaudStatusAndUnassigned : Prop :=
  ∀ (s : State) (rate : BitVec 32) (x : Element) (c : Byte),
    (if s.connState = .communicationTerminated then exec (.setBaud rate) s = .next (s.refused 0x07#8 .wrongState)
      else if rate = 0#32 then exec (.setBaud rate) s = .next (s.refused 0x07#8 .badOperand)
      else exec (.setBaud rate) s = .next (({ s.called (.setBaud rate) with baud := rate } : State).replied .ok))
      ∧ exec (.readStatus x) s = .next (s.replied (.value (match x with
          | .connState => .connState s.connState
          | .connMode => .connMode s.connMode
          | .connAttemptsLeft => .number s.attemptsLeft
          | .initAddr => .byte s.initAddr
          | .secondAddr => .optByte s.secondAddr
          | .commAddr => .byte s.commAddr
          | .keyBytes => .bytePair s.keyByte1 s.keyByte2
          | .keyValid => .flag s.keyValid
          | .baud => .baud s.baud
          | .breakOut => .flag s.breakOut
          | .tpDefault => .timing s.tpDefault
          | .tpCurrent => .timing s.tpCurrent
          | .tpLimits => .timing s.tpLimits
          | .p2maxEff => .number s.p2maxEff
          | .swP1 => .stopwatch s.swP1
          | .swP2 => .stopwatch s.swP2
          | .swP3 => .stopwatch s.swP3
          | .swDisc => .stopwatch s.swDisc
          | .rxbuf => .bytes s.rxbuf
          | .rxDirty => .flag s.rxDirty
          | .p1FlushPending => .flag s.p1Flush
          | .echoFifo => .bytes s.echoFifo
          | .ignoreCnt => .number s.ignoreCnt
          | .foundEcho => .flag s.foundEcho
          | .txq => .entries s.txq
          | .expectingResp => .flag s.expecting
          | .respCount => .number s.respCount
          | .unsolicitedCnt => .number s.unsolicited
          | .unansweredCnt => .number s.unanswered
          | .phase => .phase s.phase
          | .hsStep => .hsStep s.hsStep
          | .hsAddr => .byte s.hsAddr
          | .hsT0 => .number s.hsT0
          | .hsKb => .bytes s.hsKb
          | .hsKind => .hsKind s.hsKind
          | .hsChained => .flag s.hsChained
          | .lockHeld => .holder s.lock
          | .events => .events s.events)))
      ∧ exec (.unassigned c) s = .next (s.refused c .unknownCommand)

/-! ### Phases D and E -/

/-- R190, R288, R290 (D16, D18, D32): `check_P2` in every state of the connection but Disconnected. No expiry changes nothing;
one with nothing expected only resets the stopwatch. Otherwise the wait for the head message ends: finalised if a response
came; if none did, the message stays for the resend and the third in a row, probes apart, forces a disconnect, while a
fast-init in progress fails. -/
def Obligations.P2ExpiryEndsTheWait : Prop :=
  ∀ s : State, s.phase = .d → s.micro = .checkP2 →
    ((s.swP1.running = true ∨ s.swP2.running = false ∨ s.swP2.elapsed ≤ 2 * (1000 * s.p2maxEff)) →
      seqStep s = .next { s with micro := .checkP3 })
      ∧ (s.swP1.running = false → s.swP2.running = true → 2 * (1000 * s.p2maxEff) < s.swP2.elapsed →
          (s.expecting = false → seqStep s = .next { s with swP2 := ⟨false, 0⟩, micro := .checkP3 })
            ∧ (∀ e q, s.txq = e :: q → s.expecting = true →
                (s.respCount ≠ 0 →
                  seqStep s = .next { s with
                    swP2 := ⟨false, 0⟩, micro := .checkP3, expecting := false, respCount := 0, txq := q
                    events := s.events ++ [.timingViolation .p2]
                      ++ (if e.internal then [] else [.messageFinished e.msg .success e.attempts]) })
                  ∧ (s.respCount = 0 → s.connState = .connectionPending →
                      seqStep s = .next { ({ s with
                          events := s.events ++ [.timingViolation .p2, .messageUnanswered e.msg e.attempts,
                            .handshakeFailed .noResponse] } : State).cleared with micro := .checkP3 })
                  ∧ (s.respCount = 0 → s.connState ≠ .connectionPending → s.connState ≠ .disconnected →
                      seqStep s = .next (
                        let t := { s with
                          swP2 := ⟨false, 0⟩, micro := .checkP3, expecting := false
                          unanswered := if e.probe then s.unanswered else s.unanswered + 1
                          events := s.events ++ [.timingViolation .p2, .messageUnanswered e.msg e.attempts] }
                        if e.probe = false ∧ 3 ≤ s.unanswered + 1 then
                          { ({ t with events := t.events ++ [.forcedDisconnect .unanswered] } : State).cleared with
                            micro := .checkP3 }
                        else t))))

/-- R188, R189, R192, R194 (D14, D19, D29, D40): P1 and P3 expire strictly after their limit, then one probe read. A byte
is received through the echo filter and the expiry has no effect; none, in time or early, sets the flush pending, or
forces the disconnect; a failed read counts as none (R333), and that it leaves the waiting bytes in the line is the
model's choice, unsafe (log 8). The disconnect bound ends a pending disconnect. -/
def Obligations.OtherExpiryChecks : Prop :=
  ∀ s : State, s.phase = .d →
    (s.micro = .start →
      seqStep s = .next { s with
        micro := if s.swP1.running = true ∧ 1000 * s.tpCurrent.p1max < s.swP1.elapsed then
          .probe1 (s.env.now + s.cfg.probeTimeout) else .checkP2 })
      ∧ (∀ t, s.micro = .probe1 t →
          (∀ b r, s.env.readAns ≠ .fail → s.env.lineRx = b :: r →
            seqStep s = .next { (s.took r).receive [b] with micro := .checkP2 })
            ∧ (∀ u, (s.env.readAns ≠ .fail ∧ s.env.lineRx = [] ∧ u = s.took [])
                  ∨ (s.env.readAns = .fail ∧ u = s.readFailed) →
                seqStep s = .next { u with
                  p1Flush := true, events := u.events ++ [.timingViolation .p1], micro := .checkP2 }))
      ∧ (s.micro = .checkP3 →
          seqStep s = .next { s with
            micro := if s.connState = .connected ∧ s.swP3.running = true
                ∧ 1000 * s.tpCurrent.p3max < s.swP3.elapsed then
              .probe3 (s.env.now + s.cfg.probeTimeout) else .checkDisc })
      ∧ (∀ t, s.micro = .probe3 t →
          (∀ b r, s.env.readAns ≠ .fail → s.env.lineRx = b :: r →
            seqStep s = .next { (s.took r).receive [b] with micro := .checkDisc })
            ∧ (∀ u, (s.env.readAns ≠ .fail ∧ s.env.lineRx = [] ∧ u = s.took [])
                  ∨ (s.env.readAns = .fail ∧ u = s.readFailed) → s.connState ≠ .disconnected →
                seqStep s = .next { ({ u with
                    events := u.events ++ [.timingViolation .p3, .forcedDisconnect .p3Timeout] } : State).cleared with
                  micro := .checkDisc }))
      ∧ (s.micro = .checkDisc →
          seqStep s = .next { (if s.connState = .disconnectionPending ∧ s.swDisc.running = true
                ∧ 5000000 < s.swDisc.elapsed then s.cleared else s) with
            phase := .e, micro := .start })

/-- R283, R284, R285, R287, R291 (D19, D20, D21, D46): phase E. With the gate closed nothing is sent; outside Connected and
DisconnectionPending it is. With it open the head goes out if it has budget left, else it is finalised as failed, which for
the StopCommunication of a pending disconnect ends the connection; on an empty queue, in Connected only, a due keep-alive
is queued and goes out. -/
def Obligations.TransmitGateAndKeepAlive : Prop :=
  ∀ s : State, s.phase = .e → s.micro = .start →
    (((s.connState ≠ .connected ∧ s.connState ≠ .disconnectionPending) ∨ s.echoFifo ≠ [] ∨ s.expecting = true
        ∨ s.swP3.running = false ∨ s.swP3.elapsed < 1000 * s.tpCurrent.p3min) →
      seqStep s = .next s.asleep)
      ∧ ((s.connState = .connected ∨ s.connState = .disconnectionPending) → s.echoFifo = [] → s.expecting = false →
          s.swP3.running = true → 1000 * s.tpCurrent.p3min ≤ s.swP3.elapsed →
          (∀ e q, s.txq = e :: q → e.attempts ≤ e.msg.maxRetries → seqStep s = .next { s with micro := .send })
            ∧ (∀ e q, s.txq = e :: q → e.msg.maxRetries < e.attempts →
                let t : State := { s with
                  txq := q, respCount := 0
                  events := s.events ++ (if e.internal then [] else [.messageFinished e.msg .failed e.attempts]) }
                seqStep s = .next (if e.internal = true ∧ e.msg.sid = s.cfg.sidStopComm
                    ∧ s.connState = .disconnectionPending then t.cleared.asleep else t.asleep))
            ∧ (s.txq = [] → s.connState = .disconnectionPending → seqStep s = .next s.asleep)
            ∧ (s.txq = [] → s.connState = .connected → 0 < s.cfg.txqCap →
                if s.cfg.keepaliveEn = true ∧ 1000 * s.tpCurrent.p3max < 2 * s.swP3.elapsed then
                  seqStep s = .next { s with
                    micro := .send
                    txq := [⟨{ mode := s.cfg.keepaliveMode
                               src := if s.cfg.keepaliveMode = .none then 0#8 else s.cfg.testerAddr
                               dst := if s.cfg.keepaliveMode = .none then 0#8 else s.commAddr
                               sid := s.cfg.sidTesterPresent, data := [], maxRetries := 0 }, 0, false, true⟩] }
                else seqStep s = .next s.asleep))

/-! ### The entry to Disconnected -/

/-- R346, R345 (D27): what the entry to Disconnected clears, what it reports, and that it does nothing where the connection
is down; a forced disconnect reports its cause first. The queued messages fail head first, the internal ones unreported.
What the record does not name is unchanged. -/
def Obligations.DisconnectEntryClears : Prop :=
  (∀ q : List Entry,
      failEvents q = (q.filter fun e => !e.internal).map fun e => Event.messageFinished e.msg .failed e.attempts)
    ∧ ∀ (s : State) (c : EntryCause) (d : ForcedCause),
      (s.connState = .disconnected → s.enterDisconnected c = s)
        ∧ (s.connState ≠ .disconnected → s.enterDisconnected c = s.cleared)
        ∧ (s.connState ≠ .disconnected → s.forceDisconnect d =
            ({ s with events := s.events ++ [.forcedDisconnect d] } : State).cleared)

/-! ### The machine -/

/-- Reset (R51, R370, D39): every element's value, for the instance with the parameters `c`. -/
def Obligations.ResetValues : Prop :=
  ∀ c : Config,
    let s := State.resetWith c
    s.connState = .disconnected ∧ s.connMode = .slowInit ∧ s.attemptsLeft = 0 ∧ s.initAddr = 0#8 ∧ s.commAddr = 0#8
      ∧ s.secondAddr = none ∧ s.keyByte1 = 0#8 ∧ s.keyByte2 = 0#8 ∧ s.keyValid = false ∧ s.baud = 10400#32
      ∧ s.breakOut = false ∧ s.tpDefault = enforce c.tpDefaultReset ∧ s.tpCurrent = s.tpDefault
      ∧ s.tpLimits = enforce c.tpLimitsReset ∧ s.p2maxEff = s.tpCurrent.p2max
      ∧ s.swP1 = ⟨false, 0⟩ ∧ s.swP2 = ⟨false, 0⟩ ∧ s.swP3 = ⟨false, 0⟩ ∧ s.swDisc = ⟨false, 0⟩
      ∧ s.rxbuf = [] ∧ s.echoFifo = [] ∧ s.txq = [] ∧ s.events = [] ∧ s.rxDirty = false ∧ s.p1Flush = false
      ∧ s.foundEcho = false ∧ s.expecting = false ∧ s.ignoreCnt = 0 ∧ s.respCount = 0 ∧ s.unsolicited = 0
      ∧ s.unanswered = 0 ∧ s.phase = .a ∧ s.hsStep = .idle ∧ s.hsAddr = 0#8 ∧ s.hsT0 = 0 ∧ s.hsKb = []
      ∧ s.hsKind = .none ∧ s.hsChained = false ∧ s.lock = .none

/-- R52 holds at reset, of every instance whose parameters meet R8. -/
def Obligations.ResetSatisfiesInv : Prop := ∀ c : Config, c.ok = true → (State.resetWith c).Inv

/-- R52: every step of every agent keeps the invariant. -/
def Obligations.StepKeepsInv : Prop := ∀ s t : State, s.Inv → step s = .next t → t.Inv

/-- The block has no traps (R330): where the invariant holds a step always has a next state. -/
def Obligations.StepNeverStops : Prop := ∀ s : State, s.Inv → ∃ t, step s = .next t

/-- A step runs the item decoded at the sequencer's position: at once with an empty schedule (log 2), on its move with a
schedule (log 1); a host command runs on its move unless it waits for the lock (R311), and one whose operand bytes cannot be
read is refused (the model's layout, log 10). Which item stands there in the
phases C and E (for phase A see the handshake statements), and that a placed one is met (log 17). The sequencer is
held back by a wait or a read that is not over (R10, R82, R214) and by a lock it cannot take (R93), and by nothing else:
then with an empty schedule only the time goes on, to the awaited instant, and on its move only the move is done. -/
def Obligations.StepRunsTheDecodedItem : Prop :=
  (∀ (s : State) (p : Port) (bs r : List Byte) (i : Instr), s.enabled = true → s.fetch = some (p, bs) →
      decode p bs = .ok (i, r) → s.env.sched = [] → step s = exec i s)
    ∧ (∀ (s : State) (p : Port) (bs r : List Byte) (i : Instr) (ms : List Move), s.popMove.enabled = true →
        s.popMove.fetch = some (p, bs) → decode p bs = .ok (i, r) → s.env.sched = .seq :: ms →
        step s = exec i s.popMove)
    ∧ (∀ (s : State) (c : Byte) (ops r : List Byte) (i : Instr) (ms : List Move), s.env.sched = .host c ops :: ms →
        decode .command (c :: ops) = .ok (i, r) → (locked i = false ∨ s.lock = .none) → step s = exec i s)
    ∧ (∀ (s : State) (c : Byte) (ops : List Byte) (x : DecodeError) (ms : List Move), s.env.sched = .host c ops :: ms →
        decode .command (c :: ops) = .error x → step s = .next (s.refused c .badOperand))
    ∧ (∀ (s : State) (i : Instr), i.wf = true →
        step (s.present i.port (encode i)) = exec i (s.present i.port (encode i)))
    ∧ (∀ s : State,
        (∀ b r, s.phase = .c → s.micro = .start → s.p1Flush = false → s.rxDirty = true → s.rxbuf = b :: r →
          s.fetch = some (.header, [b]))
          ∧ (∀ k b, s.phase = .c → s.micro = .flush k → s.rxbuf[k]? = some b → s.fetch = some (.header, [b]))
          ∧ (s.phase = .c → s.micro = .dispatch → s.fetch = some (.service .rx, [s.frame.sid]))
          ∧ (∀ c, s.phase = .c → s.micro = .code → s.frame.data[1]? = some c → s.fetch = some (.code, [c]))
          ∧ (∀ e q, (s.phase = .a ∨ s.phase = .e) → (s.micro = .send ∨ ∃ k t, s.micro = .pace k t) → s.txq = e :: q →
              s.fetch = some (.service .tx, [e.msg.sid])))
    ∧ (∀ (s : State) (t : Nat), s.waitsUntil t →
        s.enabled = false ∧ (s.env.sched = [] → step s = .next (s.waitedTo t))
          ∧ (∀ ms, s.env.sched = .seq :: ms → step s = .next { s with env := { s.env with sched := ms } }))
    ∧ (∀ s : State, s.phase = .a → s.hsStep = .idle → s.micro = .start → s.lock ≠ .none →
        s.enabled = false ∧ (s.env.sched = [] → step s = .next s)
          ∧ (∀ ms, s.env.sched = .seq :: ms → step s = .next { s with env := { s.env with sched := ms } }))
    ∧ (∀ s : State, (∀ t, ¬s.waitsUntil t) →
        ¬(s.phase = .a ∧ s.hsStep = .idle ∧ s.micro = .start ∧ s.lock ≠ .none) →
        s.enabled = true ∧ (s.env.sched = [] → step s = seqStep s)
          ∧ (∀ ms, s.env.sched = .seq :: ms →
              step s = seqStep { s with env := { s.env with sched := ms } }))

/-- R311, R93 (D31): a locked command whose lock is held has no effect and gets no result; it stays at the port, and the
sequencer goes on meanwhile, as with an empty schedule (log 1, log 2). -/
def Obligations.LockedCommandWaits : Prop :=
  ∀ (s : State) (c : Byte) (ops r : List Byte) (i : Instr) (ms : List Move), s.env.sched = .host c ops :: ms →
    decode .command (c :: ops) = .ok (i, r) → locked i = true → s.lock ≠ .none →
    step s = seqMoves s
      ∧ (s.enabled = true → step s = seqStep s)
      ∧ (∀ t, s.waitsUntil t → step s = .next (s.waitedTo t))
      ∧ (∀ t, step s = .next t → t.env.sched = s.env.sched ∧ t.env.replies = s.env.replies)

/-- R47, R11, R8: events, line calls and results are only appended, time does not run backwards, the parameters stay. -/
def Obligations.HistoriesOnlyGrow : Prop :=
  ∀ s t : State, step s = .next t →
    (∃ l, t.events = s.events ++ l) ∧ (∃ l, t.env.lineLog = s.env.lineLog ++ l)
      ∧ (∃ l, t.env.replies = s.env.replies ++ l) ∧ s.env.now ≤ t.env.now ∧ t.cfg = s.cfg

/-- R252 (D27): `CONN_STATE` changes only as the table says, and every change is reported. A TERMINATE of a live connection
passes through Disconnected in its one step (R314). -/
def Obligations.ConnStateTransitions : Prop :=
  ∀ s t : State, s.Inv → step s = .next t → t.connState ≠ s.connState →
    connEdge s.connState t.connState = true
      ∧ ∃ l, t.events = s.events ++ l ∧
          (if t.connState = .communicationTerminated then .connStateChanged .disconnected .communicationTerminated ∈ l
            else .connStateChanged s.connState t.connState ∈ l)

/-- R283, the source's "no new message may be transmitted while echo is outstanding": while an echo or a response is
outstanding no step writes to the line. -/
def Obligations.NoWriteWhileEchoOutstanding : Prop :=
  ∀ s t : State, s.Inv → (s.echoFifo ≠ [] ∨ s.expecting = true) → step s = .next t →
    ∀ r ∈ t.env.lineLog.drop s.env.lineLog.length, r.isWrite = false

/-- R349, R372, R347: with the connection down and no attempt left, nothing but a host command changes that, and the block
makes no line call and raises no event meanwhile. -/
def Obligations.IdleUntilConnect : Prop :=
  ∀ s t : State, s.Inv → s.connState = .disconnected → s.attemptsLeft = 0 →
    (∀ c ops ms, s.env.sched ≠ .host c ops :: ms) → step s = .next t →
    t.connState = .disconnected ∧ t.attemptsLeft = 0 ∧ t.env.lineLog = s.env.lineLog ∧ t.events = s.events
      ∧ t.txq = [] ∧ t.rxbuf = []

end
end

