-- ==== Sys2Proof/Laws/State.lean ====
section
/-! SUPPORT. What each update does to each field of the state. -/

namespace Sys2Proof.Machine

variable (s : State)

/-! ### raise -/

@[simp] theorem State.raise_connState (e : Event) : (s.raise e).connState = s.connState := rfl
@[simp] theorem State.raise_connMode (e : Event) : (s.raise e).connMode = s.connMode := rfl
@[simp] theorem State.raise_attemptsLeft (e : Event) : (s.raise e).attemptsLeft = s.attemptsLeft := rfl
@[simp] theorem State.raise_initAddr (e : Event) : (s.raise e).initAddr = s.initAddr := rfl
@[simp] theorem State.raise_secondAddr (e : Event) : (s.raise e).secondAddr = s.secondAddr := rfl
@[simp] theorem State.raise_commAddr (e : Event) : (s.raise e).commAddr = s.commAddr := rfl
@[simp] theorem State.raise_keyByte1 (e : Event) : (s.raise e).keyByte1 = s.keyByte1 := rfl
@[simp] theorem State.raise_keyByte2 (e : Event) : (s.raise e).keyByte2 = s.keyByte2 := rfl
@[simp] theorem State.raise_keyValid (e : Event) : (s.raise e).keyValid = s.keyValid := rfl
@[simp] theorem State.raise_baud (e : Event) : (s.raise e).baud = s.baud := rfl
@[simp] theorem State.raise_breakOut (e : Event) : (s.raise e).breakOut = s.breakOut := rfl
@[simp] theorem State.raise_tpDefault (e : Event) : (s.raise e).tpDefault = s.tpDefault := rfl
@[simp] theorem State.raise_tpCurrent (e : Event) : (s.raise e).tpCurrent = s.tpCurrent := rfl
@[simp] theorem State.raise_tpLimits (e : Event) : (s.raise e).tpLimits = s.tpLimits := rfl
@[simp] theorem State.raise_p2maxEff (e : Event) : (s.raise e).p2maxEff = s.p2maxEff := rfl
@[simp] theorem State.raise_swP1 (e : Event) : (s.raise e).swP1 = s.swP1 := rfl
@[simp] theorem State.raise_swP2 (e : Event) : (s.raise e).swP2 = s.swP2 := rfl
@[simp] theorem State.raise_swP3 (e : Event) : (s.raise e).swP3 = s.swP3 := rfl
@[simp] theorem State.raise_swDisc (e : Event) : (s.raise e).swDisc = s.swDisc := rfl
@[simp] theorem State.raise_rxbuf (e : Event) : (s.raise e).rxbuf = s.rxbuf := rfl
@[simp] theorem State.raise_rxDirty (e : Event) : (s.raise e).rxDirty = s.rxDirty := rfl
@[simp] theorem State.raise_p1Flush (e : Event) : (s.raise e).p1Flush = s.p1Flush := rfl
@[simp] theorem State.raise_echoFifo (e : Event) : (s.raise e).echoFifo = s.echoFifo := rfl
@[simp] theorem State.raise_ignoreCnt (e : Event) : (s.raise e).ignoreCnt = s.ignoreCnt := rfl
@[simp] theorem State.raise_foundEcho (e : Event) : (s.raise e).foundEcho = s.foundEcho := rfl
@[simp] theorem State.raise_txq (e : Event) : (s.raise e).txq = s.txq := rfl
@[simp] theorem State.raise_expecting (e : Event) : (s.raise e).expecting = s.expecting := rfl
@[simp] theorem State.raise_respCount (e : Event) : (s.raise e).respCount = s.respCount := rfl
@[simp] theorem State.raise_unsolicited (e : Event) : (s.raise e).unsolicited = s.unsolicited := rfl
@[simp] theorem State.raise_unanswered (e : Event) : (s.raise e).unanswered = s.unanswered := rfl
@[simp] theorem State.raise_phase (e : Event) : (s.raise e).phase = s.phase := rfl
@[simp] theorem State.raise_hsStep (e : Event) : (s.raise e).hsStep = s.hsStep := rfl
@[simp] theorem State.raise_hsAddr (e : Event) : (s.raise e).hsAddr = s.hsAddr := rfl
@[simp] theorem State.raise_hsT0 (e : Event) : (s.raise e).hsT0 = s.hsT0 := rfl
@[simp] theorem State.raise_hsKb (e : Event) : (s.raise e).hsKb = s.hsKb := rfl
@[simp] theorem State.raise_hsKind (e : Event) : (s.raise e).hsKind = s.hsKind := rfl
@[simp] theorem State.raise_hsChained (e : Event) : (s.raise e).hsChained = s.hsChained := rfl
@[simp] theorem State.raise_lock (e : Event) : (s.raise e).lock = s.lock := rfl
@[simp] theorem State.raise_events (e : Event) : (s.raise e).events = s.events ++ [e] := rfl
@[simp] theorem State.raise_cfg (e : Event) : (s.raise e).cfg = s.cfg := rfl
@[simp] theorem State.raise_micro (e : Event) : (s.raise e).micro = s.micro := rfl
@[simp] theorem State.raise_frame (e : Event) : (s.raise e).frame = s.frame := rfl
@[simp] theorem State.raise_env (e : Event) : (s.raise e).env = s.env := rfl

/-! ### answer -/

@[simp] theorem State.answer_connState (r : Reply) : (s.answer r).connState = s.connState := rfl
@[simp] theorem State.answer_connMode (r : Reply) : (s.answer r).connMode = s.connMode := rfl
@[simp] theorem State.answer_attemptsLeft (r : Reply) : (s.answer r).attemptsLeft = s.attemptsLeft := rfl
@[simp] theorem State.answer_initAddr (r : Reply) : (s.answer r).initAddr = s.initAddr := rfl
@[simp] theorem State.answer_secondAddr (r : Reply) : (s.answer r).secondAddr = s.secondAddr := rfl
@[simp] theorem State.answer_commAddr (r : Reply) : (s.answer r).commAddr = s.commAddr := rfl
@[simp] theorem State.answer_keyByte1 (r : Reply) : (s.answer r).keyByte1 = s.keyByte1 := rfl
@[simp] theorem State.answer_keyByte2 (r : Reply) : (s.answer r).keyByte2 = s.keyByte2 := rfl
@[simp] theorem State.answer_keyValid (r : Reply) : (s.answer r).keyValid = s.keyValid := rfl
@[simp] theorem State.answer_baud (r : Reply) : (s.answer r).baud = s.baud := rfl
@[simp] theorem State.answer_breakOut (r : Reply) : (s.answer r).breakOut = s.breakOut := rfl
@[simp] theorem State.answer_tpDefault (r : Reply) : (s.answer r).tpDefault = s.tpDefault := rfl
@[simp] theorem State.answer_tpCurrent (r : Reply) : (s.answer r).tpCurrent = s.tpCurrent := rfl
@[simp] theorem State.answer_tpLimits (r : Reply) : (s.answer r).tpLimits = s.tpLimits := rfl
@[simp] theorem State.answer_p2maxEff (r : Reply) : (s.answer r).p2maxEff = s.p2maxEff := rfl
@[simp] theorem State.answer_swP1 (r : Reply) : (s.answer r).swP1 = s.swP1 := rfl
@[simp] theorem State.answer_swP2 (r : Reply) : (s.answer r).swP2 = s.swP2 := rfl
@[simp] theorem State.answer_swP3 (r : Reply) : (s.answer r).swP3 = s.swP3 := rfl
@[simp] theorem State.answer_swDisc (r : Reply) : (s.answer r).swDisc = s.swDisc := rfl
@[simp] theorem State.answer_rxbuf (r : Reply) : (s.answer r).rxbuf = s.rxbuf := rfl
@[simp] theorem State.answer_rxDirty (r : Reply) : (s.answer r).rxDirty = s.rxDirty := rfl
@[simp] theorem State.answer_p1Flush (r : Reply) : (s.answer r).p1Flush = s.p1Flush := rfl
@[simp] theorem State.answer_echoFifo (r : Reply) : (s.answer r).echoFifo = s.echoFifo := rfl
@[simp] theorem State.answer_ignoreCnt (r : Reply) : (s.answer r).ignoreCnt = s.ignoreCnt := rfl
@[simp] theorem State.answer_foundEcho (r : Reply) : (s.answer r).foundEcho = s.foundEcho := rfl
@[simp] theorem State.answer_txq (r : Reply) : (s.answer r).txq = s.txq := rfl
@[simp] theorem State.answer_expecting (r : Reply) : (s.answer r).expecting = s.expecting := rfl
@[simp] theorem State.answer_respCount (r : Reply) : (s.answer r).respCount = s.respCount := rfl
@[simp] theorem State.answer_unsolicited (r : Reply) : (s.answer r).unsolicited = s.unsolicited := rfl
@[simp] theorem State.answer_unanswered (r : Reply) : (s.answer r).unanswered = s.unanswered := rfl
@[simp] theorem State.answer_phase (r : Reply) : (s.answer r).phase = s.phase := rfl
@[simp] theorem State.answer_hsStep (r : Reply) : (s.answer r).hsStep = s.hsStep := rfl
@[simp] theorem State.answer_hsAddr (r : Reply) : (s.answer r).hsAddr = s.hsAddr := rfl
@[simp] theorem State.answer_hsT0 (r : Reply) : (s.answer r).hsT0 = s.hsT0 := rfl
@[simp] theorem State.answer_hsKb (r : Reply) : (s.answer r).hsKb = s.hsKb := rfl
@[simp] theorem State.answer_hsKind (r : Reply) : (s.answer r).hsKind = s.hsKind := rfl
@[simp] theorem State.answer_hsChained (r : Reply) : (s.answer r).hsChained = s.hsChained := rfl
@[simp] theorem State.answer_lock (r : Reply) : (s.answer r).lock = s.lock := rfl
@[simp] theorem State.answer_events (r : Reply) : (s.answer r).events = s.events := rfl
@[simp] theorem State.answer_cfg (r : Reply) : (s.answer r).cfg = s.cfg := rfl
@[simp] theorem State.answer_micro (r : Reply) : (s.answer r).micro = s.micro := rfl
@[simp] theorem State.answer_frame (r : Reply) : (s.answer r).frame = s.frame := rfl
@[simp] theorem State.answer_env_now (r : Reply) : (s.answer r).env.now = s.env.now := rfl
@[simp] theorem State.answer_env_sched (r : Reply) : (s.answer r).env.sched = s.env.sched.tail := rfl
@[simp] theorem State.answer_env_lineRx (r : Reply) : (s.answer r).env.lineRx = s.env.lineRx := rfl
@[simp] theorem State.answer_env_readAns (r : Reply) : (s.answer r).env.readAns = s.env.readAns := rfl
@[simp] theorem State.answer_env_writeCap (r : Reply) : (s.answer r).env.writeCap = s.env.writeCap := rfl
@[simp] theorem State.answer_env_lineLog (r : Reply) : (s.answer r).env.lineLog = s.env.lineLog := rfl
@[simp] theorem State.answer_env_replies (r : Reply) : (s.answer r).env.replies = s.env.replies ++ [r] := rfl

/-! ### goto -/

@[simp] theorem State.goto_connState (m : Micro) : (s.goto m).connState = s.connState := rfl
@[simp] theorem State.goto_connMode (m : Micro) : (s.goto m).connMode = s.connMode := rfl
@[simp] theorem State.goto_attemptsLeft (m : Micro) : (s.goto m).attemptsLeft = s.attemptsLeft := rfl
@[simp] theorem State.goto_initAddr (m : Micro) : (s.goto m).initAddr = s.initAddr := rfl
@[simp] theorem State.goto_secondAddr (m : Micro) : (s.goto m).secondAddr = s.secondAddr := rfl
@[simp] theorem State.goto_commAddr (m : Micro) : (s.goto m).commAddr = s.commAddr := rfl
@[simp] theorem State.goto_keyByte1 (m : Micro) : (s.goto m).keyByte1 = s.keyByte1 := rfl
@[simp] theorem State.goto_keyByte2 (m : Micro) : (s.goto m).keyByte2 = s.keyByte2 := rfl
@[simp] theorem State.goto_keyValid (m : Micro) : (s.goto m).keyValid = s.keyValid := rfl
@[simp] theorem State.goto_baud (m : Micro) : (s.goto m).baud = s.baud := rfl
@[simp] theorem State.goto_breakOut (m : Micro) : (s.goto m).breakOut = s.breakOut := rfl
@[simp] theorem State.goto_tpDefault (m : Micro) : (s.goto m).tpDefault = s.tpDefault := rfl
@[simp] theorem State.goto_tpCurrent (m : Micro) : (s.goto m).tpCurrent = s.tpCurrent := rfl
@[simp] theorem State.goto_tpLimits (m : Micro) : (s.goto m).tpLimits = s.tpLimits := rfl
@[simp] theorem State.goto_p2maxEff (m : Micro) : (s.goto m).p2maxEff = s.p2maxEff := rfl
@[simp] theorem State.goto_swP1 (m : Micro) : (s.goto m).swP1 = s.swP1 := rfl
@[simp] theorem State.goto_swP2 (m : Micro) : (s.goto m).swP2 = s.swP2 := rfl
@[simp] theorem State.goto_swP3 (m : Micro) : (s.goto m).swP3 = s.swP3 := rfl
@[simp] theorem State.goto_swDisc (m : Micro) : (s.goto m).swDisc = s.swDisc := rfl
@[simp] theorem State.goto_rxbuf (m : Micro) : (s.goto m).rxbuf = s.rxbuf := rfl
@[simp] theorem State.goto_rxDirty (m : Micro) : (s.goto m).rxDirty = s.rxDirty := rfl
@[simp] theorem State.goto_p1Flush (m : Micro) : (s.goto m).p1Flush = s.p1Flush := rfl
@[simp] theorem State.goto_echoFifo (m : Micro) : (s.goto m).echoFifo = s.echoFifo := rfl
@[simp] theorem State.goto_ignoreCnt (m : Micro) : (s.goto m).ignoreCnt = s.ignoreCnt := rfl
@[simp] theorem State.goto_foundEcho (m : Micro) : (s.goto m).foundEcho = s.foundEcho := rfl
@[simp] theorem State.goto_txq (m : Micro) : (s.goto m).txq = s.txq := rfl
@[simp] theorem State.goto_expecting (m : Micro) : (s.goto m).expecting = s.expecting := rfl
@[simp] theorem State.goto_respCount (m : Micro) : (s.goto m).respCount = s.respCount := rfl
@[simp] theorem State.goto_unsolicited (m : Micro) : (s.goto m).unsolicited = s.unsolicited := rfl
@[simp] theorem State.goto_unanswered (m : Micro) : (s.goto m).unanswered = s.unanswered := rfl
@[simp] theorem State.goto_phase (m : Micro) : (s.goto m).phase = s.phase := rfl
@[simp] theorem State.goto_hsStep (m : Micro) : (s.goto m).hsStep = s.hsStep := rfl
@[simp] theorem State.goto_hsAddr (m : Micro) : (s.goto m).hsAddr = s.hsAddr := rfl
@[simp] theorem State.goto_hsT0 (m : Micro) : (s.goto m).hsT0 = s.hsT0 := rfl
@[simp] theorem State.goto_hsKb (m : Micro) : (s.goto m).hsKb = s.hsKb := rfl
@[simp] theorem State.goto_hsKind (m : Micro) : (s.goto m).hsKind = s.hsKind := rfl
@[simp] theorem State.goto_hsChained (m : Micro) : (s.goto m).hsChained = s.hsChained := rfl
@[simp] theorem State.goto_lock (m : Micro) : (s.goto m).lock = s.lock := rfl
@[simp] theorem State.goto_events (m : Micro) : (s.goto m).events = s.events := rfl
@[simp] theorem State.goto_cfg (m : Micro) : (s.goto m).cfg = s.cfg := rfl
@[simp] theorem State.goto_micro (m : Micro) : (s.goto m).micro = m := rfl
@[simp] theorem State.goto_frame (m : Micro) : (s.goto m).frame = s.frame := rfl
@[simp] theorem State.goto_env (m : Micro) : (s.goto m).env = s.env := rfl

/-! ### toPhase -/

@[simp] theorem State.toPhase_connState (p : Phase) : (s.toPhase p).connState = s.connState := rfl
@[simp] theorem State.toPhase_connMode (p : Phase) : (s.toPhase p).connMode = s.connMode := rfl
@[simp] theorem State.toPhase_attemptsLeft (p : Phase) : (s.toPhase p).attemptsLeft = s.attemptsLeft := rfl
@[simp] theorem State.toPhase_initAddr (p : Phase) : (s.toPhase p).initAddr = s.initAddr := rfl
@[simp] theorem State.toPhase_secondAddr (p : Phase) : (s.toPhase p).secondAddr = s.secondAddr := rfl
@[simp] theorem State.toPhase_commAddr (p : Phase) : (s.toPhase p).commAddr = s.commAddr := rfl
@[simp] theorem State.toPhase_keyByte1 (p : Phase) : (s.toPhase p).keyByte1 = s.keyByte1 := rfl
@[simp] theorem State.toPhase_keyByte2 (p : Phase) : (s.toPhase p).keyByte2 = s.keyByte2 := rfl
@[simp] theorem State.toPhase_keyValid (p : Phase) : (s.toPhase p).keyValid = s.keyValid := rfl
@[simp] theorem State.toPhase_baud (p : Phase) : (s.toPhase p).baud = s.baud := rfl
@[simp] theorem State.toPhase_breakOut (p : Phase) : (s.toPhase p).breakOut = s.breakOut := rfl
@[simp] theorem State.toPhase_tpDefault (p : Phase) : (s.toPhase p).tpDefault = s.tpDefault := rfl
@[simp] theorem State.toPhase_tpCurrent (p : Phase) : (s.toPhase p).tpCurrent = s.tpCurrent := rfl
@[simp] theorem State.toPhase_tpLimits (p : Phase) : (s.toPhase p).tpLimits = s.tpLimits := rfl
@[simp] theorem State.toPhase_p2maxEff (p : Phase) : (s.toPhase p).p2maxEff = s.p2maxEff := rfl
@[simp] theorem State.toPhase_swP1 (p : Phase) : (s.toPhase p).swP1 = s.swP1 := rfl
@[simp] theorem State.toPhase_swP2 (p : Phase) : (s.toPhase p).swP2 = s.swP2 := rfl
@[simp] theorem State.toPhase_swP3 (p : Phase) : (s.toPhase p).swP3 = s.swP3 := rfl
@[simp] theorem State.toPhase_swDisc (p : Phase) : (s.toPhase p).swDisc = s.swDisc := rfl
@[simp] theorem State.toPhase_rxbuf (p : Phase) : (s.toPhase p).rxbuf = s.rxbuf := rfl
@[simp] theorem State.toPhase_rxDirty (p : Phase) : (s.toPhase p).rxDirty = s.rxDirty := rfl
@[simp] theorem State.toPhase_p1Flush (p : Phase) : (s.toPhase p).p1Flush = s.p1Flush := rfl
@[simp] theorem State.toPhase_echoFifo (p : Phase) : (s.toPhase p).echoFifo = s.echoFifo := rfl
@[simp] theorem State.toPhase_ignoreCnt (p : Phase) : (s.toPhase p).ignoreCnt = s.ignoreCnt := rfl
@[simp] theorem State.toPhase_foundEcho (p : Phase) : (s.toPhase p).foundEcho = s.foundEcho := rfl
@[simp] theorem State.toPhase_txq (p : Phase) : (s.toPhase p).txq = s.txq := rfl
@[simp] theorem State.toPhase_expecting (p : Phase) : (s.toPhase p).expecting = s.expecting := rfl
@[simp] theorem State.toPhase_respCount (p : Phase) : (s.toPhase p).respCount = s.respCount := rfl
@[simp] theorem State.toPhase_unsolicited (p : Phase) : (s.toPhase p).unsolicited = s.unsolicited := rfl
@[simp] theorem State.toPhase_unanswered (p : Phase) : (s.toPhase p).unanswered = s.unanswered := rfl
@[simp] theorem State.toPhase_phase (p : Phase) : (s.toPhase p).phase = p := rfl
@[simp] theorem State.toPhase_hsStep (p : Phase) : (s.toPhase p).hsStep = s.hsStep := rfl
@[simp] theorem State.toPhase_hsAddr (p : Phase) : (s.toPhase p).hsAddr = s.hsAddr := rfl
@[simp] theorem State.toPhase_hsT0 (p : Phase) : (s.toPhase p).hsT0 = s.hsT0 := rfl
@[simp] theorem State.toPhase_hsKb (p : Phase) : (s.toPhase p).hsKb = s.hsKb := rfl
@[simp] theorem State.toPhase_hsKind (p : Phase) : (s.toPhase p).hsKind = s.hsKind := rfl
@[simp] theorem State.toPhase_hsChained (p : Phase) : (s.toPhase p).hsChained = s.hsChained := rfl
@[simp] theorem State.toPhase_lock (p : Phase) : (s.toPhase p).lock = s.lock := rfl
@[simp] theorem State.toPhase_events (p : Phase) : (s.toPhase p).events = s.events := rfl
@[simp] theorem State.toPhase_cfg (p : Phase) : (s.toPhase p).cfg = s.cfg := rfl
@[simp] theorem State.toPhase_micro (p : Phase) : (s.toPhase p).micro = .start := rfl
@[simp] theorem State.toPhase_frame (p : Phase) : (s.toPhase p).frame = s.frame := rfl
@[simp] theorem State.toPhase_env (p : Phase) : (s.toPhase p).env = s.env := rfl

/-! ### toStep -/

@[simp] theorem State.toStep_connState (h : HsStep) : (s.toStep h).connState = s.connState := rfl
@[simp] theorem State.toStep_connMode (h : HsStep) : (s.toStep h).connMode = s.connMode := rfl
@[simp] theorem State.toStep_attemptsLeft (h : HsStep) : (s.toStep h).attemptsLeft = s.attemptsLeft := rfl
@[simp] theorem State.toStep_initAddr (h : HsStep) : (s.toStep h).initAddr = s.initAddr := rfl
@[simp] theorem State.toStep_secondAddr (h : HsStep) : (s.toStep h).secondAddr = s.secondAddr := rfl
@[simp] theorem State.toStep_commAddr (h : HsStep) : (s.toStep h).commAddr = s.commAddr := rfl
@[simp] theorem State.toStep_keyByte1 (h : HsStep) : (s.toStep h).keyByte1 = s.keyByte1 := rfl
@[simp] theorem State.toStep_keyByte2 (h : HsStep) : (s.toStep h).keyByte2 = s.keyByte2 := rfl
@[simp] theorem State.toStep_keyValid (h : HsStep) : (s.toStep h).keyValid = s.keyValid := rfl
@[simp] theorem State.toStep_baud (h : HsStep) : (s.toStep h).baud = s.baud := rfl
@[simp] theorem State.toStep_breakOut (h : HsStep) : (s.toStep h).breakOut = s.breakOut := rfl
@[simp] theorem State.toStep_tpDefault (h : HsStep) : (s.toStep h).tpDefault = s.tpDefault := rfl
@[simp] theorem State.toStep_tpCurrent (h : HsStep) : (s.toStep h).tpCurrent = s.tpCurrent := rfl
@[simp] theorem State.toStep_tpLimits (h : HsStep) : (s.toStep h).tpLimits = s.tpLimits := rfl
@[simp] theorem State.toStep_p2maxEff (h : HsStep) : (s.toStep h).p2maxEff = s.p2maxEff := rfl
@[simp] theorem State.toStep_swP1 (h : HsStep) : (s.toStep h).swP1 = s.swP1 := rfl
@[simp] theorem State.toStep_swP2 (h : HsStep) : (s.toStep h).swP2 = s.swP2 := rfl
@[simp] theorem State.toStep_swP3 (h : HsStep) : (s.toStep h).swP3 = s.swP3 := rfl
@[simp] theorem State.toStep_swDisc (h : HsStep) : (s.toStep h).swDisc = s.swDisc := rfl
@[simp] theorem State.toStep_rxbuf (h : HsStep) : (s.toStep h).rxbuf = s.rxbuf := rfl
@[simp] theorem State.toStep_rxDirty (h : HsStep) : (s.toStep h).rxDirty = s.rxDirty := rfl
@[simp] theorem State.toStep_p1Flush (h : HsStep) : (s.toStep h).p1Flush = s.p1Flush := rfl
@[simp] theorem State.toStep_echoFifo (h : HsStep) : (s.toStep h).echoFifo = s.echoFifo := rfl
@[simp] theorem State.toStep_ignoreCnt (h : HsStep) : (s.toStep h).ignoreCnt = s.ignoreCnt := rfl
@[simp] theorem State.toStep_foundEcho (h : HsStep) : (s.toStep h).foundEcho = s.foundEcho := rfl
@[simp] theorem State.toStep_txq (h : HsStep) : (s.toStep h).txq = s.txq := rfl
@[simp] theorem State.toStep_expecting (h : HsStep) : (s.toStep h).expecting = s.expecting := rfl
@[simp] theorem State.toStep_respCount (h : HsStep) : (s.toStep h).respCount = s.respCount := rfl
@[simp] theorem State.toStep_unsolicited (h : HsStep) : (s.toStep h).unsolicited = s.unsolicited := rfl
@[simp] theorem State.toStep_unanswered (h : HsStep) : (s.toStep h).unanswered = s.unanswered := rfl
@[simp] theorem State.toStep_phase (h : HsStep) : (s.toStep h).phase = s.phase := rfl
@[simp] theorem State.toStep_hsStep (h : HsStep) : (s.toStep h).hsStep = h := rfl
@[simp] theorem State.toStep_hsAddr (h : HsStep) : (s.toStep h).hsAddr = s.hsAddr := rfl
@[simp] theorem State.toStep_hsT0 (h : HsStep) : (s.toStep h).hsT0 = s.hsT0 := rfl
@[simp] theorem State.toStep_hsKb (h : HsStep) : (s.toStep h).hsKb = s.hsKb := rfl
@[simp] theorem State.toStep_hsKind (h : HsStep) : (s.toStep h).hsKind = s.hsKind := rfl
@[simp] theorem State.toStep_hsChained (h : HsStep) : (s.toStep h).hsChained = s.hsChained := rfl
@[simp] theorem State.toStep_lock (h : HsStep) : (s.toStep h).lock = s.lock := rfl
@[simp] theorem State.toStep_events (h : HsStep) : (s.toStep h).events = s.events := rfl
@[simp] theorem State.toStep_cfg (h : HsStep) : (s.toStep h).cfg = s.cfg := rfl
@[simp] theorem State.toStep_micro (h : HsStep) : (s.toStep h).micro = .start := rfl
@[simp] theorem State.toStep_frame (h : HsStep) : (s.toStep h).frame = s.frame := rfl
@[simp] theorem State.toStep_env (h : HsStep) : (s.toStep h).env = s.env := rfl

/-! ### toSleep -/

@[simp] theorem State.toSleep_connState : (s.toSleep).connState = s.connState := rfl
@[simp] theorem State.toSleep_connMode : (s.toSleep).connMode = s.connMode := rfl
@[simp] theorem State.toSleep_attemptsLeft : (s.toSleep).attemptsLeft = s.attemptsLeft := rfl
@[simp] theorem State.toSleep_initAddr : (s.toSleep).initAddr = s.initAddr := rfl
@[simp] theorem State.toSleep_secondAddr : (s.toSleep).secondAddr = s.secondAddr := rfl
@[simp] theorem State.toSleep_commAddr : (s.toSleep).commAddr = s.commAddr := rfl
@[simp] theorem State.toSleep_keyByte1 : (s.toSleep).keyByte1 = s.keyByte1 := rfl
@[simp] theorem State.toSleep_keyByte2 : (s.toSleep).keyByte2 = s.keyByte2 := rfl
@[simp] theorem State.toSleep_keyValid : (s.toSleep).keyValid = s.keyValid := rfl
@[simp] theorem State.toSleep_baud : (s.toSleep).baud = s.baud := rfl
@[simp] theorem State.toSleep_breakOut : (s.toSleep).breakOut = s.breakOut := rfl
@[simp] theorem State.toSleep_tpDefault : (s.toSleep).tpDefault = s.tpDefault := rfl
@[simp] theorem State.toSleep_tpCurrent : (s.toSleep).tpCurrent = s.tpCurrent := rfl
@[simp] theorem State.toSleep_tpLimits : (s.toSleep).tpLimits = s.tpLimits := rfl
@[simp] theorem State.toSleep_p2maxEff : (s.toSleep).p2maxEff = s.p2maxEff := rfl
@[simp] theorem State.toSleep_swP1 : (s.toSleep).swP1 = s.swP1 := rfl
@[simp] theorem State.toSleep_swP2 : (s.toSleep).swP2 = s.swP2 := rfl
@[simp] theorem State.toSleep_swP3 : (s.toSleep).swP3 = s.swP3 := rfl
@[simp] theorem State.toSleep_swDisc : (s.toSleep).swDisc = s.swDisc := rfl
@[simp] theorem State.toSleep_rxbuf : (s.toSleep).rxbuf = s.rxbuf := rfl
@[simp] theorem State.toSleep_rxDirty : (s.toSleep).rxDirty = s.rxDirty := rfl
@[simp] theorem State.toSleep_p1Flush : (s.toSleep).p1Flush = s.p1Flush := rfl
@[simp] theorem State.toSleep_echoFifo : (s.toSleep).echoFifo = s.echoFifo := rfl
@[simp] theorem State.toSleep_ignoreCnt : (s.toSleep).ignoreCnt = s.ignoreCnt := rfl
@[simp] theorem State.toSleep_foundEcho : (s.toSleep).foundEcho = s.foundEcho := rfl
@[simp] theorem State.toSleep_txq : (s.toSleep).txq = s.txq := rfl
@[simp] theorem State.toSleep_expecting : (s.toSleep).expecting = s.expecting := rfl
@[simp] theorem State.toSleep_respCount : (s.toSleep).respCount = s.respCount := rfl
@[simp] theorem State.toSleep_unsolicited : (s.toSleep).unsolicited = s.unsolicited := rfl
@[simp] theorem State.toSleep_unanswered : (s.toSleep).unanswered = s.unanswered := rfl
@[simp] theorem State.toSleep_phase : (s.toSleep).phase = .sleep := rfl
@[simp] theorem State.toSleep_hsStep : (s.toSleep).hsStep = s.hsStep := rfl
@[simp] theorem State.toSleep_hsAddr : (s.toSleep).hsAddr = s.hsAddr := rfl
@[simp] theorem State.toSleep_hsT0 : (s.toSleep).hsT0 = s.hsT0 := rfl
@[simp] theorem State.toSleep_hsKb : (s.toSleep).hsKb = s.hsKb := rfl
@[simp] theorem State.toSleep_hsKind : (s.toSleep).hsKind = s.hsKind := rfl
@[simp] theorem State.toSleep_hsChained : (s.toSleep).hsChained = s.hsChained := rfl
@[simp] theorem State.toSleep_lock : (s.toSleep).lock = .none := rfl
@[simp] theorem State.toSleep_events : (s.toSleep).events = s.events := rfl
@[simp] theorem State.toSleep_cfg : (s.toSleep).cfg = s.cfg := rfl
@[simp] theorem State.toSleep_micro : (s.toSleep).micro = .wait (s.env.now + s.cfg.pollSleep) := rfl
@[simp] theorem State.toSleep_frame : (s.toSleep).frame = s.frame := rfl
@[simp] theorem State.toSleep_env : (s.toSleep).env = s.env := rfl

/-! ### tick -/

@[simp] theorem State.tick_connState (dt : Nat) : (s.tick dt).connState = s.connState := rfl
@[simp] theorem State.tick_connMode (dt : Nat) : (s.tick dt).connMode = s.connMode := rfl
@[simp] theorem State.tick_attemptsLeft (dt : Nat) : (s.tick dt).attemptsLeft = s.attemptsLeft := rfl
@[simp] theorem State.tick_initAddr (dt : Nat) : (s.tick dt).initAddr = s.initAddr := rfl
@[simp] theorem State.tick_secondAddr (dt : Nat) : (s.tick dt).secondAddr = s.secondAddr := rfl
@[simp] theorem State.tick_commAddr (dt : Nat) : (s.tick dt).commAddr = s.commAddr := rfl
@[simp] theorem State.tick_keyByte1 (dt : Nat) : (s.tick dt).keyByte1 = s.keyByte1 := rfl
@[simp] theorem State.tick_keyByte2 (dt : Nat) : (s.tick dt).keyByte2 = s.keyByte2 := rfl
@[simp] theorem State.tick_keyValid (dt : Nat) : (s.tick dt).keyValid = s.keyValid := rfl
@[simp] theorem State.tick_baud (dt : Nat) : (s.tick dt).baud = s.baud := rfl
@[simp] theorem State.tick_breakOut (dt : Nat) : (s.tick dt).breakOut = s.breakOut := rfl
@[simp] theorem State.tick_tpDefault (dt : Nat) : (s.tick dt).tpDefault = s.tpDefault := rfl
@[simp] theorem State.tick_tpCurrent (dt : Nat) : (s.tick dt).tpCurrent = s.tpCurrent := rfl
@[simp] theorem State.tick_tpLimits (dt : Nat) : (s.tick dt).tpLimits = s.tpLimits := rfl
@[simp] theorem State.tick_p2maxEff (dt : Nat) : (s.tick dt).p2maxEff = s.p2maxEff := rfl
@[simp] theorem State.tick_swP1 (dt : Nat) : (s.tick dt).swP1 = s.swP1.advance dt := rfl
@[simp] theorem State.tick_swP2 (dt : Nat) : (s.tick dt).swP2 = s.swP2.advance dt := rfl
@[simp] theorem State.tick_swP3 (dt : Nat) : (s.tick dt).swP3 = s.swP3.advance dt := rfl
@[simp] theorem State.tick_swDisc (dt : Nat) : (s.tick dt).swDisc = s.swDisc.advance dt := rfl
@[simp] theorem State.tick_rxbuf (dt : Nat) : (s.tick dt).rxbuf = s.rxbuf := rfl
@[simp] theorem State.tick_rxDirty (dt : Nat) : (s.tick dt).rxDirty = s.rxDirty := rfl
@[simp] theorem State.tick_p1Flush (dt : Nat) : (s.tick dt).p1Flush = s.p1Flush := rfl
@[simp] theorem State.tick_echoFifo (dt : Nat) : (s.tick dt).echoFifo = s.echoFifo := rfl
@[simp] theorem State.tick_ignoreCnt (dt : Nat) : (s.tick dt).ignoreCnt = s.ignoreCnt := rfl
@[simp] theorem State.tick_foundEcho (dt : Nat) : (s.tick dt).foundEcho = s.foundEcho := rfl
@[simp] theorem State.tick_txq (dt : Nat) : (s.tick dt).txq = s.txq := rfl
@[simp] theorem State.tick_expecting (dt : Nat) : (s.tick dt).expecting = s.expecting := rfl
@[simp] theorem State.tick_respCount (dt : Nat) : (s.tick dt).respCount = s.respCount := rfl
@[simp] theorem State.tick_unsolicited (dt : Nat) : (s.tick dt).unsolicited = s.unsolicited := rfl
@[simp] theorem State.tick_unanswered (dt : Nat) : (s.tick dt).unanswered = s.unanswered := rfl
@[simp] theorem State.tick_phase (dt : Nat) : (s.tick dt).phase = s.phase := rfl
@[simp] theorem State.tick_hsStep (dt : Nat) : (s.tick dt).hsStep = s.hsStep := rfl
@[simp] theorem State.tick_hsAddr (dt : Nat) : (s.tick dt).hsAddr = s.hsAddr := rfl
@[simp] theorem State.tick_hsT0 (dt : Nat) : (s.tick dt).hsT0 = s.hsT0 := rfl
@[simp] theorem State.tick_hsKb (dt : Nat) : (s.tick dt).hsKb = s.hsKb := rfl
@[simp] theorem State.tick_hsKind (dt : Nat) : (s.tick dt).hsKind = s.hsKind := rfl
@[simp] theorem State.tick_hsChained (dt : Nat) : (s.tick dt).hsChained = s.hsChained := rfl
@[simp] theorem State.tick_lock (dt : Nat) : (s.tick dt).lock = s.lock := rfl
@[simp] theorem State.tick_events (dt : Nat) : (s.tick dt).events = s.events := rfl
@[simp] theorem State.tick_cfg (dt : Nat) : (s.tick dt).cfg = s.cfg := rfl
@[simp] theorem State.tick_micro (dt : Nat) : (s.tick dt).micro = s.micro := rfl
@[simp] theorem State.tick_frame (dt : Nat) : (s.tick dt).frame = s.frame := rfl
@[simp] theorem State.tick_env_now (dt : Nat) : (s.tick dt).env.now = s.env.now + dt := rfl
@[simp] theorem State.tick_env_sched (dt : Nat) : (s.tick dt).env.sched = s.env.sched := rfl
@[simp] theorem State.tick_env_lineRx (dt : Nat) : (s.tick dt).env.lineRx = s.env.lineRx := rfl
@[simp] theorem State.tick_env_readAns (dt : Nat) : (s.tick dt).env.readAns = s.env.readAns := rfl
@[simp] theorem State.tick_env_writeCap (dt : Nat) : (s.tick dt).env.writeCap = s.env.writeCap := rfl
@[simp] theorem State.tick_env_lineLog (dt : Nat) : (s.tick dt).env.lineLog = s.env.lineLog := rfl
@[simp] theorem State.tick_env_replies (dt : Nat) : (s.tick dt).env.replies = s.env.replies := rfl

/-! ### logLine -/

@[simp] theorem State.logLine_connState (c : LineCall) : (s.logLine c).connState = s.connState := rfl
@[simp] theorem State.logLine_connMode (c : LineCall) : (s.logLine c).connMode = s.connMode := rfl
@[simp] theorem State.logLine_attemptsLeft (c : LineCall) : (s.logLine c).attemptsLeft = s.attemptsLeft := rfl
@[simp] theorem State.logLine_initAddr (c : LineCall) : (s.logLine c).initAddr = s.initAddr := rfl
@[simp] theorem State.logLine_secondAddr (c : LineCall) : (s.logLine c).secondAddr = s.secondAddr := rfl
@[simp] theorem State.logLine_commAddr (c : LineCall) : (s.logLine c).commAddr = s.commAddr := rfl
@[simp] theorem State.logLine_keyByte1 (c : LineCall) : (s.logLine c).keyByte1 = s.keyByte1 := rfl
@[simp] theorem State.logLine_keyByte2 (c : LineCall) : (s.logLine c).keyByte2 = s.keyByte2 := rfl
@[simp] theorem State.logLine_keyValid (c : LineCall) : (s.logLine c).keyValid = s.keyValid := rfl
@[simp] theorem State.logLine_baud (c : LineCall) : (s.logLine c).baud = s.baud := rfl
@[simp] theorem State.logLine_breakOut (c : LineCall) : (s.logLine c).breakOut = s.breakOut := rfl
@[simp] theorem State.logLine_tpDefault (c : LineCall) : (s.logLine c).tpDefault = s.tpDefault := rfl
@[simp] theorem State.logLine_tpCurrent (c : LineCall) : (s.logLine c).tpCurrent = s.tpCurrent := rfl
@[simp] theorem State.logLine_tpLimits (c : LineCall) : (s.logLine c).tpLimits = s.tpLimits := rfl
@[simp] theorem State.logLine_p2maxEff (c : LineCall) : (s.logLine c).p2maxEff = s.p2maxEff := rfl
@[simp] theorem State.logLine_swP1 (c : LineCall) : (s.logLine c).swP1 = s.swP1 := rfl
@[simp] theorem State.logLine_swP2 (c : LineCall) : (s.logLine c).swP2 = s.swP2 := rfl
@[simp] theorem State.logLine_swP3 (c : LineCall) : (s.logLine c).swP3 = s.swP3 := rfl
@[simp] theorem State.logLine_swDisc (c : LineCall) : (s.logLine c).swDisc = s.swDisc := rfl
@[simp] theorem State.logLine_rxbuf (c : LineCall) : (s.logLine c).rxbuf = s.rxbuf := rfl
@[simp] theorem State.logLine_rxDirty (c : LineCall) : (s.logLine c).rxDirty = s.rxDirty := rfl
@[simp] theorem State.logLine_p1Flush (c : LineCall) : (s.logLine c).p1Flush = s.p1Flush := rfl
@[simp] theorem State.logLine_echoFifo (c : LineCall) : (s.logLine c).echoFifo = s.echoFifo := rfl
@[simp] theorem State.logLine_ignoreCnt (c : LineCall) : (s.logLine c).ignoreCnt = s.ignoreCnt := rfl
@[simp] theorem State.logLine_foundEcho (c : LineCall) : (s.logLine c).foundEcho = s.foundEcho := rfl
@[simp] theorem State.logLine_txq (c : LineCall) : (s.logLine c).txq = s.txq := rfl
@[simp] theorem State.logLine_expecting (c : LineCall) : (s.logLine c).expecting = s.expecting := rfl
@[simp] theorem State.logLine_respCount (c : LineCall) : (s.logLine c).respCount = s.respCount := rfl
@[simp] theorem State.logLine_unsolicited (c : LineCall) : (s.logLine c).unsolicited = s.unsolicited := rfl
@[simp] theorem State.logLine_unanswered (c : LineCall) : (s.logLine c).unanswered = s.unanswered := rfl
@[simp] theorem State.logLine_phase (c : LineCall) : (s.logLine c).phase = s.phase := rfl
@[simp] theorem State.logLine_hsStep (c : LineCall) : (s.logLine c).hsStep = s.hsStep := rfl
@[simp] theorem State.logLine_hsAddr (c : LineCall) : (s.logLine c).hsAddr = s.hsAddr := rfl
@[simp] theorem State.logLine_hsT0 (c : LineCall) : (s.logLine c).hsT0 = s.hsT0 := rfl
@[simp] theorem State.logLine_hsKb (c : LineCall) : (s.logLine c).hsKb = s.hsKb := rfl
@[simp] theorem State.logLine_hsKind (c : LineCall) : (s.logLine c).hsKind = s.hsKind := rfl
@[simp] theorem State.logLine_hsChained (c : LineCall) : (s.logLine c).hsChained = s.hsChained := rfl
@[simp] theorem State.logLine_lock (c : LineCall) : (s.logLine c).lock = s.lock := rfl
@[simp] theorem State.logLine_events (c : LineCall) : (s.logLine c).events = s.events := rfl
@[simp] theorem State.logLine_cfg (c : LineCall) : (s.logLine c).cfg = s.cfg := rfl
@[simp] theorem State.logLine_micro (c : LineCall) : (s.logLine c).micro = s.micro := rfl
@[simp] theorem State.logLine_frame (c : LineCall) : (s.logLine c).frame = s.frame := rfl
@[simp] theorem State.logLine_env_now (c : LineCall) : (s.logLine c).env.now = s.env.now := rfl
@[simp] theorem State.logLine_env_sched (c : LineCall) : (s.logLine c).env.sched = s.env.sched := rfl
@[simp] theorem State.logLine_env_lineRx (c : LineCall) : (s.logLine c).env.lineRx = s.env.lineRx := rfl
@[simp] theorem State.logLine_env_readAns (c : LineCall) : (s.logLine c).env.readAns = s.env.readAns := rfl
@[simp] theorem State.logLine_env_writeCap (c : LineCall) : (s.logLine c).env.writeCap = s.env.writeCap := rfl
@[simp] theorem State.logLine_env_lineLog (c : LineCall) : (s.logLine c).env.lineLog = s.env.lineLog ++ [⟨s.env.now, c⟩] := rfl
@[simp] theorem State.logLine_env_replies (c : LineCall) : (s.logLine c).env.replies = s.env.replies := rfl

/-! ### lineSetBreak -/

@[simp] theorem State.lineSetBreak_connState (b : Bool) : (s.lineSetBreak b).connState = s.connState := rfl
@[simp] theorem State.lineSetBreak_connMode (b : Bool) : (s.lineSetBreak b).connMode = s.connMode := rfl
@[simp] theorem State.lineSetBreak_attemptsLeft (b : Bool) : (s.lineSetBreak b).attemptsLeft = s.attemptsLeft := rfl
@[simp] theorem State.lineSetBreak_initAddr (b : Bool) : (s.lineSetBreak b).initAddr = s.initAddr := rfl
@[simp] theorem State.lineSetBreak_secondAddr (b : Bool) : (s.lineSetBreak b).secondAddr = s.secondAddr := rfl
@[simp] theorem State.lineSetBreak_commAddr (b : Bool) : (s.lineSetBreak b).commAddr = s.commAddr := rfl
@[simp] theorem State.lineSetBreak_keyByte1 (b : Bool) : (s.lineSetBreak b).keyByte1 = s.keyByte1 := rfl
@[simp] theorem State.lineSetBreak_keyByte2 (b : Bool) : (s.lineSetBreak b).keyByte2 = s.keyByte2 := rfl
@[simp] theorem State.lineSetBreak_keyValid (b : Bool) : (s.lineSetBreak b).keyValid = s.keyValid := rfl
@[simp] theorem State.lineSetBreak_baud (b : Bool) : (s.lineSetBreak b).baud = s.baud := rfl
@[simp] theorem State.lineSetBreak_breakOut (b : Bool) : (s.lineSetBreak b).breakOut = b := rfl
@[simp] theorem State.lineSetBreak_tpDefault (b : Bool) : (s.lineSetBreak b).tpDefault = s.tpDefault := rfl
@[simp] theorem State.lineSetBreak_tpCurrent (b : Bool) : (s.lineSetBreak b).tpCurrent = s.tpCurrent := rfl
@[simp] theorem State.lineSetBreak_tpLimits (b : Bool) : (s.lineSetBreak b).tpLimits = s.tpLimits := rfl
@[simp] theorem State.lineSetBreak_p2maxEff (b : Bool) : (s.lineSetBreak b).p2maxEff = s.p2maxEff := rfl
@[simp] theorem State.lineSetBreak_swP1 (b : Bool) : (s.lineSetBreak b).swP1 = s.swP1 := rfl
@[simp] theorem State.lineSetBreak_swP2 (b : Bool) : (s.lineSetBreak b).swP2 = s.swP2 := rfl
@[simp] theorem State.lineSetBreak_swP3 (b : Bool) : (s.lineSetBreak b).swP3 = s.swP3 := rfl
@[simp] theorem State.lineSetBreak_swDisc (b : Bool) : (s.lineSetBreak b).swDisc = s.swDisc := rfl
@[simp] theorem State.lineSetBreak_rxbuf (b : Bool) : (s.lineSetBreak b).rxbuf = s.rxbuf := rfl
@[simp] theorem State.lineSetBreak_rxDirty (b : Bool) : (s.lineSetBreak b).rxDirty = s.rxDirty := rfl
@[simp] theorem State.lineSetBreak_p1Flush (b : Bool) : (s.lineSetBreak b).p1Flush = s.p1Flush := rfl
@[simp] theorem State.lineSetBreak_echoFifo (b : Bool) : (s.lineSetBreak b).echoFifo = s.echoFifo := rfl
@[simp] theorem State.lineSetBreak_ignoreCnt (b : Bool) : (s.lineSetBreak b).ignoreCnt = s.ignoreCnt := rfl
@[simp] theorem State.lineSetBreak_foundEcho (b : Bool) : (s.lineSetBreak b).foundEcho = s.foundEcho := rfl
@[simp] theorem State.lineSetBreak_txq (b : Bool) : (s.lineSetBreak b).txq = s.txq := rfl
@[simp] theorem State.lineSetBreak_expecting (b : Bool) : (s.lineSetBreak b).expecting = s.expecting := rfl
@[simp] theorem State.lineSetBreak_respCount (b : Bool) : (s.lineSetBreak b).respCount = s.respCount := rfl
@[simp] theorem State.lineSetBreak_unsolicited (b : Bool) : (s.lineSetBreak b).unsolicited = s.unsolicited := rfl
@[simp] theorem State.lineSetBreak_unanswered (b : Bool) : (s.lineSetBreak b).unanswered = s.unanswered := rfl
@[simp] theorem State.lineSetBreak_phase (b : Bool) : (s.lineSetBreak b).phase = s.phase := rfl
@[simp] theorem State.lineSetBreak_hsStep (b : Bool) : (s.lineSetBreak b).hsStep = s.hsStep := rfl
@[simp] theorem State.lineSetBreak_hsAddr (b : Bool) : (s.lineSetBreak b).hsAddr = s.hsAddr := rfl
@[simp] theorem State.lineSetBreak_hsT0 (b : Bool) : (s.lineSetBreak b).hsT0 = s.hsT0 := rfl
@[simp] theorem State.lineSetBreak_hsKb (b : Bool) : (s.lineSetBreak b).hsKb = s.hsKb := rfl
@[simp] theorem State.lineSetBreak_hsKind (b : Bool) : (s.lineSetBreak b).hsKind = s.hsKind := rfl
@[simp] theorem State.lineSetBreak_hsChained (b : Bool) : (s.lineSetBreak b).hsChained = s.hsChained := rfl
@[simp] theorem State.lineSetBreak_lock (b : Bool) : (s.lineSetBreak b).lock = s.lock := rfl
@[simp] theorem State.lineSetBreak_events (b : Bool) : (s.lineSetBreak b).events = s.events := rfl
@[simp] theorem State.lineSetBreak_cfg (b : Bool) : (s.lineSetBreak b).cfg = s.cfg := rfl
@[simp] theorem State.lineSetBreak_micro (b : Bool) : (s.lineSetBreak b).micro = s.micro := rfl
@[simp] theorem State.lineSetBreak_frame (b : Bool) : (s.lineSetBreak b).frame = s.frame := rfl
@[simp] theorem State.lineSetBreak_env_now (b : Bool) : (s.lineSetBreak b).env.now = s.env.now := rfl
@[simp] theorem State.lineSetBreak_env_sched (b : Bool) : (s.lineSetBreak b).env.sched = s.env.sched := rfl
@[simp] theorem State.lineSetBreak_env_lineRx (b : Bool) : (s.lineSetBreak b).env.lineRx = s.env.lineRx := rfl
@[simp] theorem State.lineSetBreak_env_readAns (b : Bool) : (s.lineSetBreak b).env.readAns = s.env.readAns := rfl
@[simp] theorem State.lineSetBreak_env_writeCap (b : Bool) : (s.lineSetBreak b).env.writeCap = s.env.writeCap := rfl
@[simp] theorem State.lineSetBreak_env_lineLog (b : Bool) : (s.lineSetBreak b).env.lineLog = s.env.lineLog ++ [⟨s.env.now, .setBreak b⟩] := rfl
@[simp] theorem State.lineSetBreak_env_replies (b : Bool) : (s.lineSetBreak b).env.replies = s.env.replies := rfl

/-! ### lineSetBaud -/

@[simp] theorem State.lineSetBaud_connState (r : BitVec 32) : (s.lineSetBaud r).connState = s.connState := rfl
@[simp] theorem State.lineSetBaud_connMode (r : BitVec 32) : (s.lineSetBaud r).connMode = s.connMode := rfl
@[simp] theorem State.lineSetBaud_attemptsLeft (r : BitVec 32) : (s.lineSetBaud r).attemptsLeft = s.attemptsLeft := rfl
@[simp] theorem State.lineSetBaud_initAddr (r : BitVec 32) : (s.lineSetBaud r).initAddr = s.initAddr := rfl
@[simp] theorem State.lineSetBaud_secondAddr (r : BitVec 32) : (s.lineSetBaud r).secondAddr = s.secondAddr := rfl
@[simp] theorem State.lineSetBaud_commAddr (r : BitVec 32) : (s.lineSetBaud r).commAddr = s.commAddr := rfl
@[simp] theorem State.lineSetBaud_keyByte1 (r : BitVec 32) : (s.lineSetBaud r).keyByte1 = s.keyByte1 := rfl
@[simp] theorem State.lineSetBaud_keyByte2 (r : BitVec 32) : (s.lineSetBaud r).keyByte2 = s.keyByte2 := rfl
@[simp] theorem State.lineSetBaud_keyValid (r : BitVec 32) : (s.lineSetBaud r).keyValid = s.keyValid := rfl
@[simp] theorem State.lineSetBaud_baud (r : BitVec 32) : (s.lineSetBaud r).baud = r := rfl
@[simp] theorem State.lineSetBaud_breakOut (r : BitVec 32) : (s.lineSetBaud r).breakOut = s.breakOut := rfl
@[simp] theorem State.lineSetBaud_tpDefault (r : BitVec 32) : (s.lineSetBaud r).tpDefault = s.tpDefault := rfl
@[simp] theorem State.lineSetBaud_tpCurrent (r : BitVec 32) : (s.lineSetBaud r).tpCurrent = s.tpCurrent := rfl
@[simp] theorem State.lineSetBaud_tpLimits (r : BitVec 32) : (s.lineSetBaud r).tpLimits = s.tpLimits := rfl
@[simp] theorem State.lineSetBaud_p2maxEff (r : BitVec 32) : (s.lineSetBaud r).p2maxEff = s.p2maxEff := rfl
@[simp] theorem State.lineSetBaud_swP1 (r : BitVec 32) : (s.lineSetBaud r).swP1 = s.swP1 := rfl
@[simp] theorem State.lineSetBaud_swP2 (r : BitVec 32) : (s.lineSetBaud r).swP2 = s.swP2 := rfl
@[simp] theorem State.lineSetBaud_swP3 (r : BitVec 32) : (s.lineSetBaud r).swP3 = s.swP3 := rfl
@[simp] theorem State.lineSetBaud_swDisc (r : BitVec 32) : (s.lineSetBaud r).swDisc = s.swDisc := rfl
@[simp] theorem State.lineSetBaud_rxbuf (r : BitVec 32) : (s.lineSetBaud r).rxbuf = s.rxbuf := rfl
@[simp] theorem State.lineSetBaud_rxDirty (r : BitVec 32) : (s.lineSetBaud r).rxDirty = s.rxDirty := rfl
@[simp] theorem State.lineSetBaud_p1Flush (r : BitVec 32) : (s.lineSetBaud r).p1Flush = s.p1Flush := rfl
@[simp] theorem State.lineSetBaud_echoFifo (r : BitVec 32) : (s.lineSetBaud r).echoFifo = s.echoFifo := rfl
@[simp] theorem State.lineSetBaud_ignoreCnt (r : BitVec 32) : (s.lineSetBaud r).ignoreCnt = s.ignoreCnt := rfl
@[simp] theorem State.lineSetBaud_foundEcho (r : BitVec 32) : (s.lineSetBaud r).foundEcho = s.foundEcho := rfl
@[simp] theorem State.lineSetBaud_txq (r : BitVec 32) : (s.lineSetBaud r).txq = s.txq := rfl
@[simp] theorem State.lineSetBaud_expecting (r : BitVec 32) : (s.lineSetBaud r).expecting = s.expecting := rfl
@[simp] theorem State.lineSetBaud_respCount (r : BitVec 32) : (s.lineSetBaud r).respCount = s.respCount := rfl
@[simp] theorem State.lineSetBaud_unsolicited (r : BitVec 32) : (s.lineSetBaud r).unsolicited = s.unsolicited := rfl
@[simp] theorem State.lineSetBaud_unanswered (r : BitVec 32) : (s.lineSetBaud r).unanswered = s.unanswered := rfl
@[simp] theorem State.lineSetBaud_phase (r : BitVec 32) : (s.lineSetBaud r).phase = s.phase := rfl
@[simp] theorem State.lineSetBaud_hsStep (r : BitVec 32) : (s.lineSetBaud r).hsStep = s.hsStep := rfl
@[simp] theorem State.lineSetBaud_hsAddr (r : BitVec 32) : (s.lineSetBaud r).hsAddr = s.hsAddr := rfl
@[simp] theorem State.lineSetBaud_hsT0 (r : BitVec 32) : (s.lineSetBaud r).hsT0 = s.hsT0 := rfl
@[simp] theorem State.lineSetBaud_hsKb (r : BitVec 32) : (s.lineSetBaud r).hsKb = s.hsKb := rfl
@[simp] theorem State.lineSetBaud_hsKind (r : BitVec 32) : (s.lineSetBaud r).hsKind = s.hsKind := rfl
@[simp] theorem State.lineSetBaud_hsChained (r : BitVec 32) : (s.lineSetBaud r).hsChained = s.hsChained := rfl
@[simp] theorem State.lineSetBaud_lock (r : BitVec 32) : (s.lineSetBaud r).lock = s.lock := rfl
@[simp] theorem State.lineSetBaud_events (r : BitVec 32) : (s.lineSetBaud r).events = s.events := rfl
@[simp] theorem State.lineSetBaud_cfg (r : BitVec 32) : (s.lineSetBaud r).cfg = s.cfg := rfl
@[simp] theorem State.lineSetBaud_micro (r : BitVec 32) : (s.lineSetBaud r).micro = s.micro := rfl
@[simp] theorem State.lineSetBaud_frame (r : BitVec 32) : (s.lineSetBaud r).frame = s.frame := rfl
@[simp] theorem State.lineSetBaud_env_now (r : BitVec 32) : (s.lineSetBaud r).env.now = s.env.now := rfl
@[simp] theorem State.lineSetBaud_env_sched (r : BitVec 32) : (s.lineSetBaud r).env.sched = s.env.sched := rfl
@[simp] theorem State.lineSetBaud_env_lineRx (r : BitVec 32) : (s.lineSetBaud r).env.lineRx = s.env.lineRx := rfl
@[simp] theorem State.lineSetBaud_env_readAns (r : BitVec 32) : (s.lineSetBaud r).env.readAns = s.env.readAns := rfl
@[simp] theorem State.lineSetBaud_env_writeCap (r : BitVec 32) : (s.lineSetBaud r).env.writeCap = s.env.writeCap := rfl
@[simp] theorem State.lineSetBaud_env_lineLog (r : BitVec 32) : (s.lineSetBaud r).env.lineLog = s.env.lineLog ++ [⟨s.env.now, .setBaud r⟩] := rfl
@[simp] theorem State.lineSetBaud_env_replies (r : BitVec 32) : (s.lineSetBaud r).env.replies = s.env.replies := rfl

/-! ### linePurge -/

@[simp] theorem State.linePurge_connState (rx : Bool) (tx : Bool) : (s.linePurge rx tx).connState = s.connState := by cases rx <;> rfl
@[simp] theorem State.linePurge_connMode (rx : Bool) (tx : Bool) : (s.linePurge rx tx).connMode = s.connMode := by cases rx <;> rfl
@[simp] theorem State.linePurge_attemptsLeft (rx : Bool) (tx : Bool) : (s.linePurge rx tx).attemptsLeft = s.attemptsLeft := by cases rx <;> rfl
@[simp] theorem State.linePurge_initAddr (rx : Bool) (tx : Bool) : (s.linePurge rx tx).initAddr = s.initAddr := by cases rx <;> rfl
@[simp] theorem State.linePurge_secondAddr (rx : Bool) (tx : Bool) : (s.linePurge rx tx).secondAddr = s.secondAddr := by cases rx <;> rfl
@[simp] theorem State.linePurge_commAddr (rx : Bool) (tx : Bool) : (s.linePurge rx tx).commAddr = s.commAddr := by cases rx <;> rfl
@[simp] theorem State.linePurge_keyByte1 (rx : Bool) (tx : Bool) : (s.linePurge rx tx).keyByte1 = s.keyByte1 := by cases rx <;> rfl
@[simp] theorem State.linePurge_keyByte2 (rx : Bool) (tx : Bool) : (s.linePurge rx tx).keyByte2 = s.keyByte2 := by cases rx <;> rfl
@[simp] theorem State.linePurge_keyValid (rx : Bool) (tx : Bool) : (s.linePurge rx tx).keyValid = s.keyValid := by cases rx <;> rfl
@[simp] theorem State.linePurge_baud (rx : Bool) (tx : Bool) : (s.linePurge rx tx).baud = s.baud := by cases rx <;> rfl
@[simp] theorem State.linePurge_breakOut (rx : Bool) (tx : Bool) : (s.linePurge rx tx).breakOut = s.breakOut := by cases rx <;> rfl
@[simp] theorem State.linePurge_tpDefault (rx : Bool) (tx : Bool) : (s.linePurge rx tx).tpDefault = s.tpDefault := by cases rx <;> rfl
@[simp] theorem State.linePurge_tpCurrent (rx : Bool) (tx : Bool) : (s.linePurge rx tx).tpCurrent = s.tpCurrent := by cases rx <;> rfl
@[simp] theorem State.linePurge_tpLimits (rx : Bool) (tx : Bool) : (s.linePurge rx tx).tpLimits = s.tpLimits := by cases rx <;> rfl
@[simp] theorem State.linePurge_p2maxEff (rx : Bool) (tx : Bool) : (s.linePurge rx tx).p2maxEff = s.p2maxEff := by cases rx <;> rfl
@[simp] theorem State.linePurge_swP1 (rx : Bool) (tx : Bool) : (s.linePurge rx tx).swP1 = s.swP1 := by cases rx <;> rfl
@[simp] theorem State.linePurge_swP2 (rx : Bool) (tx : Bool) : (s.linePurge rx tx).swP2 = s.swP2 := by cases rx <;> rfl
@[simp] theorem State.linePurge_swP3 (rx : Bool) (tx : Bool) : (s.linePurge rx tx).swP3 = s.swP3 := by cases rx <;> rfl
@[simp] theorem State.linePurge_swDisc (rx : Bool) (tx : Bool) : (s.linePurge rx tx).swDisc = s.swDisc := by cases rx <;> rfl
@[simp] theorem State.linePurge_rxbuf (rx : Bool) (tx : Bool) : (s.linePurge rx tx).rxbuf = s.rxbuf := by cases rx <;> rfl
@[simp] theorem State.linePurge_rxDirty (rx : Bool) (tx : Bool) : (s.linePurge rx tx).rxDirty = s.rxDirty := by cases rx <;> rfl
@[simp] theorem State.linePurge_p1Flush (rx : Bool) (tx : Bool) : (s.linePurge rx tx).p1Flush = s.p1Flush := by cases rx <;> rfl
@[simp] theorem State.linePurge_echoFifo (rx : Bool) (tx : Bool) : (s.linePurge rx tx).echoFifo = s.echoFifo := by cases rx <;> rfl
@[simp] theorem State.linePurge_ignoreCnt (rx : Bool) (tx : Bool) : (s.linePurge rx tx).ignoreCnt = s.ignoreCnt := by cases rx <;> rfl
@[simp] theorem State.linePurge_foundEcho (rx : Bool) (tx : Bool) : (s.linePurge rx tx).foundEcho = s.foundEcho := by cases rx <;> rfl
@[simp] theorem State.linePurge_txq (rx : Bool) (tx : Bool) : (s.linePurge rx tx).txq = s.txq := by cases rx <;> rfl
@[simp] theorem State.linePurge_expecting (rx : Bool) (tx : Bool) : (s.linePurge rx tx).expecting = s.expecting := by cases rx <;> rfl
@[simp] theorem State.linePurge_respCount (rx : Bool) (tx : Bool) : (s.linePurge rx tx).respCount = s.respCount := by cases rx <;> rfl
@[simp] theorem State.linePurge_unsolicited (rx : Bool) (tx : Bool) : (s.linePurge rx tx).unsolicited = s.unsolicited := by cases rx <;> rfl
@[simp] theorem State.linePurge_unanswered (rx : Bool) (tx : Bool) : (s.linePurge rx tx).unanswered = s.unanswered := by cases rx <;> rfl
@[simp] theorem State.linePurge_phase (rx : Bool) (tx : Bool) : (s.linePurge rx tx).phase = s.phase := by cases rx <;> rfl
@[simp] theorem State.linePurge_hsStep (rx : Bool) (tx : Bool) : (s.linePurge rx tx).hsStep = s.hsStep := by cases rx <;> rfl
@[simp] theorem State.linePurge_hsAddr (rx : Bool) (tx : Bool) : (s.linePurge rx tx).hsAddr = s.hsAddr := by cases rx <;> rfl
@[simp] theorem State.linePurge_hsT0 (rx : Bool) (tx : Bool) : (s.linePurge rx tx).hsT0 = s.hsT0 := by cases rx <;> rfl
@[simp] theorem State.linePurge_hsKb (rx : Bool) (tx : Bool) : (s.linePurge rx tx).hsKb = s.hsKb := by cases rx <;> rfl
@[simp] theorem State.linePurge_hsKind (rx : Bool) (tx : Bool) : (s.linePurge rx tx).hsKind = s.hsKind := by cases rx <;> rfl
@[simp] theorem State.linePurge_hsChained (rx : Bool) (tx : Bool) : (s.linePurge rx tx).hsChained = s.hsChained := by cases rx <;> rfl
@[simp] theorem State.linePurge_lock (rx : Bool) (tx : Bool) : (s.linePurge rx tx).lock = s.lock := by cases rx <;> rfl
@[simp] theorem State.linePurge_events (rx : Bool) (tx : Bool) : (s.linePurge rx tx).events = s.events := by cases rx <;> rfl
@[simp] theorem State.linePurge_cfg (rx : Bool) (tx : Bool) : (s.linePurge rx tx).cfg = s.cfg := by cases rx <;> rfl
@[simp] theorem State.linePurge_micro (rx : Bool) (tx : Bool) : (s.linePurge rx tx).micro = s.micro := by cases rx <;> rfl
@[simp] theorem State.linePurge_frame (rx : Bool) (tx : Bool) : (s.linePurge rx tx).frame = s.frame := by cases rx <;> rfl
@[simp] theorem State.linePurge_env_now (rx : Bool) (tx : Bool) : (s.linePurge rx tx).env.now = s.env.now := by cases rx <;> rfl
@[simp] theorem State.linePurge_env_sched (rx : Bool) (tx : Bool) : (s.linePurge rx tx).env.sched = s.env.sched := by cases rx <;> rfl
@[simp] theorem State.linePurge_env_lineRx (rx : Bool) (tx : Bool) : (s.linePurge rx tx).env.lineRx = if rx then [] else s.env.lineRx := by cases rx <;> rfl
@[simp] theorem State.linePurge_env_readAns (rx : Bool) (tx : Bool) : (s.linePurge rx tx).env.readAns = s.env.readAns := by cases rx <;> rfl
@[simp] theorem State.linePurge_env_writeCap (rx : Bool) (tx : Bool) : (s.linePurge rx tx).env.writeCap = s.env.writeCap := by cases rx <;> rfl
@[simp] theorem State.linePurge_env_lineLog (rx : Bool) (tx : Bool) : (s.linePurge rx tx).env.lineLog = s.env.lineLog ++ [⟨s.env.now, .purge rx tx⟩] := by cases rx <;> rfl
@[simp] theorem State.linePurge_env_replies (rx : Bool) (tx : Bool) : (s.linePurge rx tx).env.replies = s.env.replies := by cases rx <;> rfl

/-! ### lineWrite -/

@[simp] theorem State.lineWrite_connState (b : List Byte) : (s.lineWrite b).connState = s.connState := rfl
@[simp] theorem State.lineWrite_connMode (b : List Byte) : (s.lineWrite b).connMode = s.connMode := rfl
@[simp] theorem State.lineWrite_attemptsLeft (b : List Byte) : (s.lineWrite b).attemptsLeft = s.attemptsLeft := rfl
@[simp] theorem State.lineWrite_initAddr (b : List Byte) : (s.lineWrite b).initAddr = s.initAddr := rfl
@[simp] theorem State.lineWrite_secondAddr (b : List Byte) : (s.lineWrite b).secondAddr = s.secondAddr := rfl
@[simp] theorem State.lineWrite_commAddr (b : List Byte) : (s.lineWrite b).commAddr = s.commAddr := rfl
@[simp] theorem State.lineWrite_keyByte1 (b : List Byte) : (s.lineWrite b).keyByte1 = s.keyByte1 := rfl
@[simp] theorem State.lineWrite_keyByte2 (b : List Byte) : (s.lineWrite b).keyByte2 = s.keyByte2 := rfl
@[simp] theorem State.lineWrite_keyValid (b : List Byte) : (s.lineWrite b).keyValid = s.keyValid := rfl
@[simp] theorem State.lineWrite_baud (b : List Byte) : (s.lineWrite b).baud = s.baud := rfl
@[simp] theorem State.lineWrite_breakOut (b : List Byte) : (s.lineWrite b).breakOut = s.breakOut := rfl
@[simp] theorem State.lineWrite_tpDefault (b : List Byte) : (s.lineWrite b).tpDefault = s.tpDefault := rfl
@[simp] theorem State.lineWrite_tpCurrent (b : List Byte) : (s.lineWrite b).tpCurrent = s.tpCurrent := rfl
@[simp] theorem State.lineWrite_tpLimits (b : List Byte) : (s.lineWrite b).tpLimits = s.tpLimits := rfl
@[simp] theorem State.lineWrite_p2maxEff (b : List Byte) : (s.lineWrite b).p2maxEff = s.p2maxEff := rfl
@[simp] theorem State.lineWrite_swP1 (b : List Byte) : (s.lineWrite b).swP1 = s.swP1 := rfl
@[simp] theorem State.lineWrite_swP2 (b : List Byte) : (s.lineWrite b).swP2 = s.swP2 := rfl
@[simp] theorem State.lineWrite_swP3 (b : List Byte) : (s.lineWrite b).swP3 = s.swP3 := rfl
@[simp] theorem State.lineWrite_swDisc (b : List Byte) : (s.lineWrite b).swDisc = s.swDisc := rfl
@[simp] theorem State.lineWrite_rxbuf (b : List Byte) : (s.lineWrite b).rxbuf = s.rxbuf := rfl
@[simp] theorem State.lineWrite_rxDirty (b : List Byte) : (s.lineWrite b).rxDirty = s.rxDirty := rfl
@[simp] theorem State.lineWrite_p1Flush (b : List Byte) : (s.lineWrite b).p1Flush = s.p1Flush := rfl
@[simp] theorem State.lineWrite_echoFifo (b : List Byte) : (s.lineWrite b).echoFifo = s.echoFifo := rfl
@[simp] theorem State.lineWrite_ignoreCnt (b : List Byte) : (s.lineWrite b).ignoreCnt = s.ignoreCnt := rfl
@[simp] theorem State.lineWrite_foundEcho (b : List Byte) : (s.lineWrite b).foundEcho = s.foundEcho := rfl
@[simp] theorem State.lineWrite_txq (b : List Byte) : (s.lineWrite b).txq = s.txq := rfl
@[simp] theorem State.lineWrite_expecting (b : List Byte) : (s.lineWrite b).expecting = s.expecting := rfl
@[simp] theorem State.lineWrite_respCount (b : List Byte) : (s.lineWrite b).respCount = s.respCount := rfl
@[simp] theorem State.lineWrite_unsolicited (b : List Byte) : (s.lineWrite b).unsolicited = s.unsolicited := rfl
@[simp] theorem State.lineWrite_unanswered (b : List Byte) : (s.lineWrite b).unanswered = s.unanswered := rfl
@[simp] theorem State.lineWrite_phase (b : List Byte) : (s.lineWrite b).phase = s.phase := rfl
@[simp] theorem State.lineWrite_hsStep (b : List Byte) : (s.lineWrite b).hsStep = s.hsStep := rfl
@[simp] theorem State.lineWrite_hsAddr (b : List Byte) : (s.lineWrite b).hsAddr = s.hsAddr := rfl
@[simp] theorem State.lineWrite_hsT0 (b : List Byte) : (s.lineWrite b).hsT0 = s.hsT0 := rfl
@[simp] theorem State.lineWrite_hsKb (b : List Byte) : (s.lineWrite b).hsKb = s.hsKb := rfl
@[simp] theorem State.lineWrite_hsKind (b : List Byte) : (s.lineWrite b).hsKind = s.hsKind := rfl
@[simp] theorem State.lineWrite_hsChained (b : List Byte) : (s.lineWrite b).hsChained = s.hsChained := rfl
@[simp] theorem State.lineWrite_lock (b : List Byte) : (s.lineWrite b).lock = s.lock := rfl
@[simp] theorem State.lineWrite_events (b : List Byte) : (s.lineWrite b).events = s.events := rfl
@[simp] theorem State.lineWrite_cfg (b : List Byte) : (s.lineWrite b).cfg = s.cfg := rfl
@[simp] theorem State.lineWrite_micro (b : List Byte) : (s.lineWrite b).micro = s.micro := rfl
@[simp] theorem State.lineWrite_frame (b : List Byte) : (s.lineWrite b).frame = s.frame := rfl
@[simp] theorem State.lineWrite_env_now (b : List Byte) : (s.lineWrite b).env.now = s.env.now := rfl
@[simp] theorem State.lineWrite_env_sched (b : List Byte) : (s.lineWrite b).env.sched = s.env.sched := rfl
@[simp] theorem State.lineWrite_env_lineRx (b : List Byte) : (s.lineWrite b).env.lineRx = s.env.lineRx := rfl
@[simp] theorem State.lineWrite_env_readAns (b : List Byte) : (s.lineWrite b).env.readAns = s.env.readAns := rfl
@[simp] theorem State.lineWrite_env_writeCap (b : List Byte) : (s.lineWrite b).env.writeCap = none := rfl
@[simp] theorem State.lineWrite_env_lineLog (b : List Byte) : (s.lineWrite b).env.lineLog = s.env.lineLog ++ [⟨s.env.now, .write b (s.writeCount b)⟩] := rfl
@[simp] theorem State.lineWrite_env_replies (b : List Byte) : (s.lineWrite b).env.replies = s.env.replies := rfl

/-! ### readDone -/

@[simp] theorem State.readDone_connState (n : Nat) : (s.readDone n).connState = s.connState := by unfold State.readDone; split <;> rfl
@[simp] theorem State.readDone_connMode (n : Nat) : (s.readDone n).connMode = s.connMode := by unfold State.readDone; split <;> rfl
@[simp] theorem State.readDone_attemptsLeft (n : Nat) : (s.readDone n).attemptsLeft = s.attemptsLeft := by unfold State.readDone; split <;> rfl
@[simp] theorem State.readDone_initAddr (n : Nat) : (s.readDone n).initAddr = s.initAddr := by unfold State.readDone; split <;> rfl
@[simp] theorem State.readDone_secondAddr (n : Nat) : (s.readDone n).secondAddr = s.secondAddr := by unfold State.readDone; split <;> rfl
@[simp] theorem State.readDone_commAddr (n : Nat) : (s.readDone n).commAddr = s.commAddr := by unfold State.readDone; split <;> rfl
@[simp] theorem State.readDone_keyByte1 (n : Nat) : (s.readDone n).keyByte1 = s.keyByte1 := by unfold State.readDone; split <;> rfl
@[simp] theorem State.readDone_keyByte2 (n : Nat) : (s.readDone n).keyByte2 = s.keyByte2 := by unfold State.readDone; split <;> rfl
@[simp] theorem State.readDone_keyValid (n : Nat) : (s.readDone n).keyValid = s.keyValid := by unfold State.readDone; split <;> rfl
@[simp] theorem State.readDone_baud (n : Nat) : (s.readDone n).baud = s.baud := by unfold State.readDone; split <;> rfl
@[simp] theorem State.readDone_breakOut (n : Nat) : (s.readDone n).breakOut = s.breakOut := by unfold State.readDone; split <;> rfl
@[simp] theorem State.readDone_tpDefault (n : Nat) : (s.readDone n).tpDefault = s.tpDefault := by unfold State.readDone; split <;> rfl
@[simp] theorem State.readDone_tpCurrent (n : Nat) : (s.readDone n).tpCurrent = s.tpCurrent := by unfold State.readDone; split <;> rfl
@[simp] theorem State.readDone_tpLimits (n : Nat) : (s.readDone n).tpLimits = s.tpLimits := by unfold State.readDone; split <;> rfl
@[simp] theorem State.readDone_p2maxEff (n : Nat) : (s.readDone n).p2maxEff = s.p2maxEff := by unfold State.readDone; split <;> rfl
@[simp] theorem State.readDone_swP1 (n : Nat) : (s.readDone n).swP1 = s.swP1 := by unfold State.readDone; split <;> rfl
@[simp] theorem State.readDone_swP2 (n : Nat) : (s.readDone n).swP2 = s.swP2 := by unfold State.readDone; split <;> rfl
@[simp] theorem State.readDone_swP3 (n : Nat) : (s.readDone n).swP3 = s.swP3 := by unfold State.readDone; split <;> rfl
@[simp] theorem State.readDone_swDisc (n : Nat) : (s.readDone n).swDisc = s.swDisc := by unfold State.readDone; split <;> rfl
@[simp] theorem State.readDone_rxbuf (n : Nat) : (s.readDone n).rxbuf = s.rxbuf := by unfold State.readDone; split <;> rfl
@[simp] theorem State.readDone_rxDirty (n : Nat) : (s.readDone n).rxDirty = s.rxDirty := by unfold State.readDone; split <;> rfl
@[simp] theorem State.readDone_p1Flush (n : Nat) : (s.readDone n).p1Flush = s.p1Flush := by unfold State.readDone; split <;> rfl
@[simp] theorem State.readDone_echoFifo (n : Nat) : (s.readDone n).echoFifo = s.echoFifo := by unfold State.readDone; split <;> rfl
@[simp] theorem State.readDone_ignoreCnt (n : Nat) : (s.readDone n).ignoreCnt = s.ignoreCnt := by unfold State.readDone; split <;> rfl
@[simp] theorem State.readDone_foundEcho (n : Nat) : (s.readDone n).foundEcho = s.foundEcho := by unfold State.readDone; split <;> rfl
@[simp] theorem State.readDone_txq (n : Nat) : (s.readDone n).txq = s.txq := by unfold State.readDone; split <;> rfl
@[simp] theorem State.readDone_expecting (n : Nat) : (s.readDone n).expecting = s.expecting := by unfold State.readDone; split <;> rfl
@[simp] theorem State.readDone_respCount (n : Nat) : (s.readDone n).respCount = s.respCount := by unfold State.readDone; split <;> rfl
@[simp] theorem State.readDone_unsolicited (n : Nat) : (s.readDone n).unsolicited = s.unsolicited := by unfold State.readDone; split <;> rfl
@[simp] theorem State.readDone_unanswered (n : Nat) : (s.readDone n).unanswered = s.unanswered := by unfold State.readDone; split <;> rfl
@[simp] theorem State.readDone_phase (n : Nat) : (s.readDone n).phase = s.phase := by unfold State.readDone; split <;> rfl
@[simp] theorem State.readDone_hsStep (n : Nat) : (s.readDone n).hsStep = s.hsStep := by unfold State.readDone; split <;> rfl
@[simp] theorem State.readDone_hsAddr (n : Nat) : (s.readDone n).hsAddr = s.hsAddr := by unfold State.readDone; split <;> rfl
@[simp] theorem State.readDone_hsT0 (n : Nat) : (s.readDone n).hsT0 = s.hsT0 := by unfold State.readDone; split <;> rfl
@[simp] theorem State.readDone_hsKb (n : Nat) : (s.readDone n).hsKb = s.hsKb := by unfold State.readDone; split <;> rfl
@[simp] theorem State.readDone_hsKind (n : Nat) : (s.readDone n).hsKind = s.hsKind := by unfold State.readDone; split <;> rfl
@[simp] theorem State.readDone_hsChained (n : Nat) : (s.readDone n).hsChained = s.hsChained := by unfold State.readDone; split <;> rfl
@[simp] theorem State.readDone_lock (n : Nat) : (s.readDone n).lock = s.lock := by unfold State.readDone; split <;> rfl
@[simp] theorem State.readDone_events (n : Nat) : (s.readDone n).events = if s.readFails then s.events ++ [.transportError .read 0] else s.events := by unfold State.readDone; split <;> rfl
@[simp] theorem State.readDone_cfg (n : Nat) : (s.readDone n).cfg = s.cfg := by unfold State.readDone; split <;> rfl
@[simp] theorem State.readDone_micro (n : Nat) : (s.readDone n).micro = s.micro := by unfold State.readDone; split <;> rfl
@[simp] theorem State.readDone_frame (n : Nat) : (s.readDone n).frame = s.frame := by unfold State.readDone; split <;> rfl
@[simp] theorem State.readDone_env_now (n : Nat) : (s.readDone n).env.now = s.env.now := by unfold State.readDone; split <;> rfl
@[simp] theorem State.readDone_env_sched (n : Nat) : (s.readDone n).env.sched = s.env.sched := by unfold State.readDone; split <;> rfl
@[simp] theorem State.readDone_env_lineRx (n : Nat) : (s.readDone n).env.lineRx = if s.readFails then s.env.lineRx else s.env.lineRx.drop n := by unfold State.readDone; split <;> rfl
@[simp] theorem State.readDone_env_readAns (n : Nat) : (s.readDone n).env.readAns = .normal := by unfold State.readDone; split <;> rfl
@[simp] theorem State.readDone_env_writeCap (n : Nat) : (s.readDone n).env.writeCap = s.env.writeCap := by unfold State.readDone; split <;> rfl
@[simp] theorem State.readDone_env_lineLog (n : Nat) : (s.readDone n).env.lineLog = s.env.lineLog := by unfold State.readDone; split <;> rfl
@[simp] theorem State.readDone_env_replies (n : Nat) : (s.readDone n).env.replies = s.env.replies := by unfold State.readDone; split <;> rfl

/-! ### rxAppend -/

@[simp] theorem State.rxAppend_connState (b : List Byte) : (s.rxAppend b).connState = s.connState := by unfold State.rxAppend; dsimp only; split <;> rfl
@[simp] theorem State.rxAppend_connMode (b : List Byte) : (s.rxAppend b).connMode = s.connMode := by unfold State.rxAppend; dsimp only; split <;> rfl
@[simp] theorem State.rxAppend_attemptsLeft (b : List Byte) : (s.rxAppend b).attemptsLeft = s.attemptsLeft := by unfold State.rxAppend; dsimp only; split <;> rfl
@[simp] theorem State.rxAppend_initAddr (b : List Byte) : (s.rxAppend b).initAddr = s.initAddr := by unfold State.rxAppend; dsimp only; split <;> rfl
@[simp] theorem State.rxAppend_secondAddr (b : List Byte) : (s.rxAppend b).secondAddr = s.secondAddr := by unfold State.rxAppend; dsimp only; split <;> rfl
@[simp] theorem State.rxAppend_commAddr (b : List Byte) : (s.rxAppend b).commAddr = s.commAddr := by unfold State.rxAppend; dsimp only; split <;> rfl
@[simp] theorem State.rxAppend_keyByte1 (b : List Byte) : (s.rxAppend b).keyByte1 = s.keyByte1 := by unfold State.rxAppend; dsimp only; split <;> rfl
@[simp] theorem State.rxAppend_keyByte2 (b : List Byte) : (s.rxAppend b).keyByte2 = s.keyByte2 := by unfold State.rxAppend; dsimp only; split <;> rfl
@[simp] theorem State.rxAppend_keyValid (b : List Byte) : (s.rxAppend b).keyValid = s.keyValid := by unfold State.rxAppend; dsimp only; split <;> rfl
@[simp] theorem State.rxAppend_baud (b : List Byte) : (s.rxAppend b).baud = s.baud := by unfold State.rxAppend; dsimp only; split <;> rfl
@[simp] theorem State.rxAppend_breakOut (b : List Byte) : (s.rxAppend b).breakOut = s.breakOut := by unfold State.rxAppend; dsimp only; split <;> rfl
@[simp] theorem State.rxAppend_tpDefault (b : List Byte) : (s.rxAppend b).tpDefault = s.tpDefault := by unfold State.rxAppend; dsimp only; split <;> rfl
@[simp] theorem State.rxAppend_tpCurrent (b : List Byte) : (s.rxAppend b).tpCurrent = s.tpCurrent := by unfold State.rxAppend; dsimp only; split <;> rfl
@[simp] theorem State.rxAppend_tpLimits (b : List Byte) : (s.rxAppend b).tpLimits = s.tpLimits := by unfold State.rxAppend; dsimp only; split <;> rfl
@[simp] theorem State.rxAppend_p2maxEff (b : List Byte) : (s.rxAppend b).p2maxEff = s.p2maxEff := by unfold State.rxAppend; dsimp only; split <;> rfl
@[simp] theorem State.rxAppend_swP1 (b : List Byte) : (s.rxAppend b).swP1 = s.swP1 := by unfold State.rxAppend; dsimp only; split <;> rfl
@[simp] theorem State.rxAppend_swP2 (b : List Byte) : (s.rxAppend b).swP2 = s.swP2 := by unfold State.rxAppend; dsimp only; split <;> rfl
@[simp] theorem State.rxAppend_swP3 (b : List Byte) : (s.rxAppend b).swP3 = s.swP3 := by unfold State.rxAppend; dsimp only; split <;> rfl
@[simp] theorem State.rxAppend_swDisc (b : List Byte) : (s.rxAppend b).swDisc = s.swDisc := by unfold State.rxAppend; dsimp only; split <;> rfl
@[simp] theorem State.rxAppend_rxbuf (b : List Byte) : (s.rxAppend b).rxbuf = s.rxbuf ++ b.take (s.cfg.rxbufCap - s.rxbuf.length) := by
  unfold State.rxAppend; dsimp only; split <;> simp [State.raise, List.take_eq_take_min, Nat.min_comm]
@[simp] theorem State.rxAppend_p1Flush (b : List Byte) : (s.rxAppend b).p1Flush = s.p1Flush := by unfold State.rxAppend; dsimp only; split <;> rfl
@[simp] theorem State.rxAppend_echoFifo (b : List Byte) : (s.rxAppend b).echoFifo = s.echoFifo := by unfold State.rxAppend; dsimp only; split <;> rfl
@[simp] theorem State.rxAppend_ignoreCnt (b : List Byte) : (s.rxAppend b).ignoreCnt = s.ignoreCnt := by unfold State.rxAppend; dsimp only; split <;> rfl
@[simp] theorem State.rxAppend_foundEcho (b : List Byte) : (s.rxAppend b).foundEcho = s.foundEcho := by unfold State.rxAppend; dsimp only; split <;> rfl
@[simp] theorem State.rxAppend_txq (b : List Byte) : (s.rxAppend b).txq = s.txq := by unfold State.rxAppend; dsimp only; split <;> rfl
@[simp] theorem State.rxAppend_expecting (b : List Byte) : (s.rxAppend b).expecting = s.expecting := by unfold State.rxAppend; dsimp only; split <;> rfl
@[simp] theorem State.rxAppend_respCount (b : List Byte) : (s.rxAppend b).respCount = s.respCount := by unfold State.rxAppend; dsimp only; split <;> rfl
@[simp] theorem State.rxAppend_unsolicited (b : List Byte) : (s.rxAppend b).unsolicited = s.unsolicited := by unfold State.rxAppend; dsimp only; split <;> rfl
@[simp] theorem State.rxAppend_unanswered (b : List Byte) : (s.rxAppend b).unanswered = s.unanswered := by unfold State.rxAppend; dsimp only; split <;> rfl
@[simp] theorem State.rxAppend_phase (b : List Byte) : (s.rxAppend b).phase = s.phase := by unfold State.rxAppend; dsimp only; split <;> rfl
@[simp] theorem State.rxAppend_hsStep (b : List Byte) : (s.rxAppend b).hsStep = s.hsStep := by unfold State.rxAppend; dsimp only; split <;> rfl
@[simp] theorem State.rxAppend_hsAddr (b : List Byte) : (s.rxAppend b).hsAddr = s.hsAddr := by unfold State.rxAppend; dsimp only; split <;> rfl
@[simp] theorem State.rxAppend_hsT0 (b : List Byte) : (s.rxAppend b).hsT0 = s.hsT0 := by unfold State.rxAppend; dsimp only; split <;> rfl
@[simp] theorem State.rxAppend_hsKb (b : List Byte) : (s.rxAppend b).hsKb = s.hsKb := by unfold State.rxAppend; dsimp only; split <;> rfl
@[simp] theorem State.rxAppend_hsKind (b : List Byte) : (s.rxAppend b).hsKind = s.hsKind := by unfold State.rxAppend; dsimp only; split <;> rfl
@[simp] theorem State.rxAppend_hsChained (b : List Byte) : (s.rxAppend b).hsChained = s.hsChained := by unfold State.rxAppend; dsimp only; split <;> rfl
@[simp] theorem State.rxAppend_lock (b : List Byte) : (s.rxAppend b).lock = s.lock := by unfold State.rxAppend; dsimp only; split <;> rfl
@[simp] theorem State.rxAppend_cfg (b : List Byte) : (s.rxAppend b).cfg = s.cfg := by unfold State.rxAppend; dsimp only; split <;> rfl
@[simp] theorem State.rxAppend_micro (b : List Byte) : (s.rxAppend b).micro = s.micro := by unfold State.rxAppend; dsimp only; split <;> rfl
@[simp] theorem State.rxAppend_frame (b : List Byte) : (s.rxAppend b).frame = s.frame := by unfold State.rxAppend; dsimp only; split <;> rfl
@[simp] theorem State.rxAppend_env (b : List Byte) : (s.rxAppend b).env = s.env := by unfold State.rxAppend; dsimp only; split <;> rfl

/-! ### rxDropFront -/

@[simp] theorem State.rxDropFront_connState (n : Nat) : (s.rxDropFront n).connState = s.connState := rfl
@[simp] theorem State.rxDropFront_connMode (n : Nat) : (s.rxDropFront n).connMode = s.connMode := rfl
@[simp] theorem State.rxDropFront_attemptsLeft (n : Nat) : (s.rxDropFront n).attemptsLeft = s.attemptsLeft := rfl
@[simp] theorem State.rxDropFront_initAddr (n : Nat) : (s.rxDropFront n).initAddr = s.initAddr := rfl
@[simp] theorem State.rxDropFront_secondAddr (n : Nat) : (s.rxDropFront n).secondAddr = s.secondAddr := rfl
@[simp] theorem State.rxDropFront_commAddr (n : Nat) : (s.rxDropFront n).commAddr = s.commAddr := rfl
@[simp] theorem State.rxDropFront_keyByte1 (n : Nat) : (s.rxDropFront n).keyByte1 = s.keyByte1 := rfl
@[simp] theorem State.rxDropFront_keyByte2 (n : Nat) : (s.rxDropFront n).keyByte2 = s.keyByte2 := rfl
@[simp] theorem State.rxDropFront_keyValid (n : Nat) : (s.rxDropFront n).keyValid = s.keyValid := rfl
@[simp] theorem State.rxDropFront_baud (n : Nat) : (s.rxDropFront n).baud = s.baud := rfl
@[simp] theorem State.rxDropFront_breakOut (n : Nat) : (s.rxDropFront n).breakOut = s.breakOut := rfl
@[simp] theorem State.rxDropFront_tpDefault (n : Nat) : (s.rxDropFront n).tpDefault = s.tpDefault := rfl
@[simp] theorem State.rxDropFront_tpCurrent (n : Nat) : (s.rxDropFront n).tpCurrent = s.tpCurrent := rfl
@[simp] theorem State.rxDropFront_tpLimits (n : Nat) : (s.rxDropFront n).tpLimits = s.tpLimits := rfl
@[simp] theorem State.rxDropFront_p2maxEff (n : Nat) : (s.rxDropFront n).p2maxEff = s.p2maxEff := rfl
@[simp] theorem State.rxDropFront_swP1 (n : Nat) : (s.rxDropFront n).swP1 = s.swP1 := rfl
@[simp] theorem State.rxDropFront_swP2 (n : Nat) : (s.rxDropFront n).swP2 = s.swP2 := rfl
@[simp] theorem State.rxDropFront_swP3 (n : Nat) : (s.rxDropFront n).swP3 = s.swP3 := rfl
@[simp] theorem State.rxDropFront_swDisc (n : Nat) : (s.rxDropFront n).swDisc = s.swDisc := rfl
@[simp] theorem State.rxDropFront_rxbuf (n : Nat) : (s.rxDropFront n).rxbuf = s.rxbuf.drop n := rfl
@[simp] theorem State.rxDropFront_rxDirty (n : Nat) : (s.rxDropFront n).rxDirty = s.rxDirty := rfl
@[simp] theorem State.rxDropFront_p1Flush (n : Nat) : (s.rxDropFront n).p1Flush = s.p1Flush := rfl
@[simp] theorem State.rxDropFront_echoFifo (n : Nat) : (s.rxDropFront n).echoFifo = s.echoFifo := rfl
@[simp] theorem State.rxDropFront_ignoreCnt (n : Nat) : (s.rxDropFront n).ignoreCnt = s.ignoreCnt := rfl
@[simp] theorem State.rxDropFront_foundEcho (n : Nat) : (s.rxDropFront n).foundEcho = s.foundEcho := rfl
@[simp] theorem State.rxDropFront_txq (n : Nat) : (s.rxDropFront n).txq = s.txq := rfl
@[simp] theorem State.rxDropFront_expecting (n : Nat) : (s.rxDropFront n).expecting = s.expecting := rfl
@[simp] theorem State.rxDropFront_respCount (n : Nat) : (s.rxDropFront n).respCount = s.respCount := rfl
@[simp] theorem State.rxDropFront_unsolicited (n : Nat) : (s.rxDropFront n).unsolicited = s.unsolicited := rfl
@[simp] theorem State.rxDropFront_unanswered (n : Nat) : (s.rxDropFront n).unanswered = s.unanswered := rfl
@[simp] theorem State.rxDropFront_phase (n : Nat) : (s.rxDropFront n).phase = s.phase := rfl
@[simp] theorem State.rxDropFront_hsStep (n : Nat) : (s.rxDropFront n).hsStep = s.hsStep := rfl
@[simp] theorem State.rxDropFront_hsAddr (n : Nat) : (s.rxDropFront n).hsAddr = s.hsAddr := rfl
@[simp] theorem State.rxDropFront_hsT0 (n : Nat) : (s.rxDropFront n).hsT0 = s.hsT0 := rfl
@[simp] theorem State.rxDropFront_hsKb (n : Nat) : (s.rxDropFront n).hsKb = s.hsKb := rfl
@[simp] theorem State.rxDropFront_hsKind (n : Nat) : (s.rxDropFront n).hsKind = s.hsKind := rfl
@[simp] theorem State.rxDropFront_hsChained (n : Nat) : (s.rxDropFront n).hsChained = s.hsChained := rfl
@[simp] theorem State.rxDropFront_lock (n : Nat) : (s.rxDropFront n).lock = s.lock := rfl
@[simp] theorem State.rxDropFront_events (n : Nat) : (s.rxDropFront n).events = s.events := rfl
@[simp] theorem State.rxDropFront_cfg (n : Nat) : (s.rxDropFront n).cfg = s.cfg := rfl
@[simp] theorem State.rxDropFront_micro (n : Nat) : (s.rxDropFront n).micro = s.micro := rfl
@[simp] theorem State.rxDropFront_frame (n : Nat) : (s.rxDropFront n).frame = s.frame := rfl
@[simp] theorem State.rxDropFront_env (n : Nat) : (s.rxDropFront n).env = s.env := rfl

/-! ### bytesReceived -/

@[simp] theorem State.bytesReceived_connState : (s.bytesReceived).connState = s.connState := rfl
@[simp] theorem State.bytesReceived_connMode : (s.bytesReceived).connMode = s.connMode := rfl
@[simp] theorem State.bytesReceived_attemptsLeft : (s.bytesReceived).attemptsLeft = s.attemptsLeft := rfl
@[simp] theorem State.bytesReceived_initAddr : (s.bytesReceived).initAddr = s.initAddr := rfl
@[simp] theorem State.bytesReceived_secondAddr : (s.bytesReceived).secondAddr = s.secondAddr := rfl
@[simp] theorem State.bytesReceived_commAddr : (s.bytesReceived).commAddr = s.commAddr := rfl
@[simp] theorem State.bytesReceived_keyByte1 : (s.bytesReceived).keyByte1 = s.keyByte1 := rfl
@[simp] theorem State.bytesReceived_keyByte2 : (s.bytesReceived).keyByte2 = s.keyByte2 := rfl
@[simp] theorem State.bytesReceived_keyValid : (s.bytesReceived).keyValid = s.keyValid := rfl
@[simp] theorem State.bytesReceived_baud : (s.bytesReceived).baud = s.baud := rfl
@[simp] theorem State.bytesReceived_breakOut : (s.bytesReceived).breakOut = s.breakOut := rfl
@[simp] theorem State.bytesReceived_tpDefault : (s.bytesReceived).tpDefault = s.tpDefault := rfl
@[simp] theorem State.bytesReceived_tpCurrent : (s.bytesReceived).tpCurrent = s.tpCurrent := rfl
@[simp] theorem State.bytesReceived_tpLimits : (s.bytesReceived).tpLimits = s.tpLimits := rfl
@[simp] theorem State.bytesReceived_p2maxEff : (s.bytesReceived).p2maxEff = s.p2maxEff := rfl
@[simp] theorem State.bytesReceived_swP1 : (s.bytesReceived).swP1 = ⟨true, 0⟩ := rfl
@[simp] theorem State.bytesReceived_swP2 : (s.bytesReceived).swP2 = ⟨false, s.swP2.elapsed⟩ := rfl
@[simp] theorem State.bytesReceived_swP3 : (s.bytesReceived).swP3 = s.swP3 := rfl
@[simp] theorem State.bytesReceived_swDisc : (s.bytesReceived).swDisc = s.swDisc := rfl
@[simp] theorem State.bytesReceived_rxbuf : (s.bytesReceived).rxbuf = s.rxbuf := rfl
@[simp] theorem State.bytesReceived_rxDirty : (s.bytesReceived).rxDirty = s.rxDirty := rfl
@[simp] theorem State.bytesReceived_p1Flush : (s.bytesReceived).p1Flush = s.p1Flush := rfl
@[simp] theorem State.bytesReceived_echoFifo : (s.bytesReceived).echoFifo = s.echoFifo := rfl
@[simp] theorem State.bytesReceived_ignoreCnt : (s.bytesReceived).ignoreCnt = s.ignoreCnt := rfl
@[simp] theorem State.bytesReceived_foundEcho : (s.bytesReceived).foundEcho = s.foundEcho := rfl
@[simp] theorem State.bytesReceived_txq : (s.bytesReceived).txq = s.txq := rfl
@[simp] theorem State.bytesReceived_expecting : (s.bytesReceived).expecting = s.expecting := rfl
@[simp] theorem State.bytesReceived_respCount : (s.bytesReceived).respCount = s.respCount := rfl
@[simp] theorem State.bytesReceived_unsolicited : (s.bytesReceived).unsolicited = s.unsolicited := rfl
@[simp] theorem State.bytesReceived_unanswered : (s.bytesReceived).unanswered = s.unanswered := rfl
@[simp] theorem State.bytesReceived_phase : (s.bytesReceived).phase = s.phase := rfl
@[simp] theorem State.bytesReceived_hsStep : (s.bytesReceived).hsStep = s.hsStep := rfl
@[simp] theorem State.bytesReceived_hsAddr : (s.bytesReceived).hsAddr = s.hsAddr := rfl
@[simp] theorem State.bytesReceived_hsT0 : (s.bytesReceived).hsT0 = s.hsT0 := rfl
@[simp] theorem State.bytesReceived_hsKb : (s.bytesReceived).hsKb = s.hsKb := rfl
@[simp] theorem State.bytesReceived_hsKind : (s.bytesReceived).hsKind = s.hsKind := rfl
@[simp] theorem State.bytesReceived_hsChained : (s.bytesReceived).hsChained = s.hsChained := rfl
@[simp] theorem State.bytesReceived_lock : (s.bytesReceived).lock = s.lock := rfl
@[simp] theorem State.bytesReceived_events : (s.bytesReceived).events = s.events := rfl
@[simp] theorem State.bytesReceived_cfg : (s.bytesReceived).cfg = s.cfg := rfl
@[simp] theorem State.bytesReceived_micro : (s.bytesReceived).micro = s.micro := rfl
@[simp] theorem State.bytesReceived_frame : (s.bytesReceived).frame = s.frame := rfl
@[simp] theorem State.bytesReceived_env : (s.bytesReceived).env = s.env := rfl

/-! ### popMove -/

@[simp] theorem State.popMove_connState : (s.popMove).connState = s.connState := rfl
@[simp] theorem State.popMove_connMode : (s.popMove).connMode = s.connMode := rfl
@[simp] theorem State.popMove_attemptsLeft : (s.popMove).attemptsLeft = s.attemptsLeft := rfl
@[simp] theorem State.popMove_initAddr : (s.popMove).initAddr = s.initAddr := rfl
@[simp] theorem State.popMove_secondAddr : (s.popMove).secondAddr = s.secondAddr := rfl
@[simp] theorem State.popMove_commAddr : (s.popMove).commAddr = s.commAddr := rfl
@[simp] theorem State.popMove_keyByte1 : (s.popMove).keyByte1 = s.keyByte1 := rfl
@[simp] theorem State.popMove_keyByte2 : (s.popMove).keyByte2 = s.keyByte2 := rfl
@[simp] theorem State.popMove_keyValid : (s.popMove).keyValid = s.keyValid := rfl
@[simp] theorem State.popMove_baud : (s.popMove).baud = s.baud := rfl
@[simp] theorem State.popMove_breakOut : (s.popMove).breakOut = s.breakOut := rfl
@[simp] theorem State.popMove_tpDefault : (s.popMove).tpDefault = s.tpDefault := rfl
@[simp] theorem State.popMove_tpCurrent : (s.popMove).tpCurrent = s.tpCurrent := rfl
@[simp] theorem State.popMove_tpLimits : (s.popMove).tpLimits = s.tpLimits := rfl
@[simp] theorem State.popMove_p2maxEff : (s.popMove).p2maxEff = s.p2maxEff := rfl
@[simp] theorem State.popMove_swP1 : (s.popMove).swP1 = s.swP1 := rfl
@[simp] theorem State.popMove_swP2 : (s.popMove).swP2 = s.swP2 := rfl
@[simp] theorem State.popMove_swP3 : (s.popMove).swP3 = s.swP3 := rfl
@[simp] theorem State.popMove_swDisc : (s.popMove).swDisc = s.swDisc := rfl
@[simp] theorem State.popMove_rxbuf : (s.popMove).rxbuf = s.rxbuf := rfl
@[simp] theorem State.popMove_rxDirty : (s.popMove).rxDirty = s.rxDirty := rfl
@[simp] theorem State.popMove_p1Flush : (s.popMove).p1Flush = s.p1Flush := rfl
@[simp] theorem State.popMove_echoFifo : (s.popMove).echoFifo = s.echoFifo := rfl
@[simp] theorem State.popMove_ignoreCnt : (s.popMove).ignoreCnt = s.ignoreCnt := rfl
@[simp] theorem State.popMove_foundEcho : (s.popMove).foundEcho = s.foundEcho := rfl
@[simp] theorem State.popMove_txq : (s.popMove).txq = s.txq := rfl
@[simp] theorem State.popMove_expecting : (s.popMove).expecting = s.expecting := rfl
@[simp] theorem State.popMove_respCount : (s.popMove).respCount = s.respCount := rfl
@[simp] theorem State.popMove_unsolicited : (s.popMove).unsolicited = s.unsolicited := rfl
@[simp] theorem State.popMove_unanswered : (s.popMove).unanswered = s.unanswered := rfl
@[simp] theorem State.popMove_phase : (s.popMove).phase = s.phase := rfl
@[simp] theorem State.popMove_hsStep : (s.popMove).hsStep = s.hsStep := rfl
@[simp] theorem State.popMove_hsAddr : (s.popMove).hsAddr = s.hsAddr := rfl
@[simp] theorem State.popMove_hsT0 : (s.popMove).hsT0 = s.hsT0 := rfl
@[simp] theorem State.popMove_hsKb : (s.popMove).hsKb = s.hsKb := rfl
@[simp] theorem State.popMove_hsKind : (s.popMove).hsKind = s.hsKind := rfl
@[simp] theorem State.popMove_hsChained : (s.popMove).hsChained = s.hsChained := rfl
@[simp] theorem State.popMove_lock : (s.popMove).lock = s.lock := rfl
@[simp] theorem State.popMove_events : (s.popMove).events = s.events := rfl
@[simp] theorem State.popMove_cfg : (s.popMove).cfg = s.cfg := rfl
@[simp] theorem State.popMove_micro : (s.popMove).micro = s.micro := rfl
@[simp] theorem State.popMove_frame : (s.popMove).frame = s.frame := rfl
@[simp] theorem State.popMove_env_now : (s.popMove).env.now = s.env.now := rfl
@[simp] theorem State.popMove_env_sched : (s.popMove).env.sched = s.env.sched.tail := rfl
@[simp] theorem State.popMove_env_lineRx : (s.popMove).env.lineRx = s.env.lineRx := rfl
@[simp] theorem State.popMove_env_readAns : (s.popMove).env.readAns = s.env.readAns := rfl
@[simp] theorem State.popMove_env_writeCap : (s.popMove).env.writeCap = s.env.writeCap := rfl
@[simp] theorem State.popMove_env_lineLog : (s.popMove).env.lineLog = s.env.lineLog := rfl
@[simp] theorem State.popMove_env_replies : (s.popMove).env.replies = s.env.replies := rfl

/-! ### pushMove -/

@[simp] theorem State.pushMove_connState (m : Move) : (s.pushMove m).connState = s.connState := rfl
@[simp] theorem State.pushMove_connMode (m : Move) : (s.pushMove m).connMode = s.connMode := rfl
@[simp] theorem State.pushMove_attemptsLeft (m : Move) : (s.pushMove m).attemptsLeft = s.attemptsLeft := rfl
@[simp] theorem State.pushMove_initAddr (m : Move) : (s.pushMove m).initAddr = s.initAddr := rfl
@[simp] theorem State.pushMove_secondAddr (m : Move) : (s.pushMove m).secondAddr = s.secondAddr := rfl
@[simp] theorem State.pushMove_commAddr (m : Move) : (s.pushMove m).commAddr = s.commAddr := rfl
@[simp] theorem State.pushMove_keyByte1 (m : Move) : (s.pushMove m).keyByte1 = s.keyByte1 := rfl
@[simp] theorem State.pushMove_keyByte2 (m : Move) : (s.pushMove m).keyByte2 = s.keyByte2 := rfl
@[simp] theorem State.pushMove_keyValid (m : Move) : (s.pushMove m).keyValid = s.keyValid := rfl
@[simp] theorem State.pushMove_baud (m : Move) : (s.pushMove m).baud = s.baud := rfl
@[simp] theorem State.pushMove_breakOut (m : Move) : (s.pushMove m).breakOut = s.breakOut := rfl
@[simp] theorem State.pushMove_tpDefault (m : Move) : (s.pushMove m).tpDefault = s.tpDefault := rfl
@[simp] theorem State.pushMove_tpCurrent (m : Move) : (s.pushMove m).tpCurrent = s.tpCurrent := rfl
@[simp] theorem State.pushMove_tpLimits (m : Move) : (s.pushMove m).tpLimits = s.tpLimits := rfl
@[simp] theorem State.pushMove_p2maxEff (m : Move) : (s.pushMove m).p2maxEff = s.p2maxEff := rfl
@[simp] theorem State.pushMove_swP1 (m : Move) : (s.pushMove m).swP1 = s.swP1 := rfl
@[simp] theorem State.pushMove_swP2 (m : Move) : (s.pushMove m).swP2 = s.swP2 := rfl
@[simp] theorem State.pushMove_swP3 (m : Move) : (s.pushMove m).swP3 = s.swP3 := rfl
@[simp] theorem State.pushMove_swDisc (m : Move) : (s.pushMove m).swDisc = s.swDisc := rfl
@[simp] theorem State.pushMove_rxbuf (m : Move) : (s.pushMove m).rxbuf = s.rxbuf := rfl
@[simp] theorem State.pushMove_rxDirty (m : Move) : (s.pushMove m).rxDirty = s.rxDirty := rfl
@[simp] theorem State.pushMove_p1Flush (m : Move) : (s.pushMove m).p1Flush = s.p1Flush := rfl
@[simp] theorem State.pushMove_echoFifo (m : Move) : (s.pushMove m).echoFifo = s.echoFifo := rfl
@[simp] theorem State.pushMove_ignoreCnt (m : Move) : (s.pushMove m).ignoreCnt = s.ignoreCnt := rfl
@[simp] theorem State.pushMove_foundEcho (m : Move) : (s.pushMove m).foundEcho = s.foundEcho := rfl
@[simp] theorem State.pushMove_txq (m : Move) : (s.pushMove m).txq = s.txq := rfl
@[simp] theorem State.pushMove_expecting (m : Move) : (s.pushMove m).expecting = s.expecting := rfl
@[simp] theorem State.pushMove_respCount (m : Move) : (s.pushMove m).respCount = s.respCount := rfl
@[simp] theorem State.pushMove_unsolicited (m : Move) : (s.pushMove m).unsolicited = s.unsolicited := rfl
@[simp] theorem State.pushMove_unanswered (m : Move) : (s.pushMove m).unanswered = s.unanswered := rfl
@[simp] theorem State.pushMove_phase (m : Move) : (s.pushMove m).phase = s.phase := rfl
@[simp] theorem State.pushMove_hsStep (m : Move) : (s.pushMove m).hsStep = s.hsStep := rfl
@[simp] theorem State.pushMove_hsAddr (m : Move) : (s.pushMove m).hsAddr = s.hsAddr := rfl
@[simp] theorem State.pushMove_hsT0 (m : Move) : (s.pushMove m).hsT0 = s.hsT0 := rfl
@[simp] theorem State.pushMove_hsKb (m : Move) : (s.pushMove m).hsKb = s.hsKb := rfl
@[simp] theorem State.pushMove_hsKind (m : Move) : (s.pushMove m).hsKind = s.hsKind := rfl
@[simp] theorem State.pushMove_hsChained (m : Move) : (s.pushMove m).hsChained = s.hsChained := rfl
@[simp] theorem State.pushMove_lock (m : Move) : (s.pushMove m).lock = s.lock := rfl
@[simp] theorem State.pushMove_events (m : Move) : (s.pushMove m).events = s.events := rfl
@[simp] theorem State.pushMove_cfg (m : Move) : (s.pushMove m).cfg = s.cfg := rfl
@[simp] theorem State.pushMove_micro (m : Move) : (s.pushMove m).micro = s.micro := rfl
@[simp] theorem State.pushMove_frame (m : Move) : (s.pushMove m).frame = s.frame := rfl
@[simp] theorem State.pushMove_env_now (m : Move) : (s.pushMove m).env.now = s.env.now := rfl
@[simp] theorem State.pushMove_env_sched (m : Move) : (s.pushMove m).env.sched = m :: s.env.sched := rfl
@[simp] theorem State.pushMove_env_lineRx (m : Move) : (s.pushMove m).env.lineRx = s.env.lineRx := rfl
@[simp] theorem State.pushMove_env_readAns (m : Move) : (s.pushMove m).env.readAns = s.env.readAns := rfl
@[simp] theorem State.pushMove_env_writeCap (m : Move) : (s.pushMove m).env.writeCap = s.env.writeCap := rfl
@[simp] theorem State.pushMove_env_lineLog (m : Move) : (s.pushMove m).env.lineLog = s.env.lineLog := rfl
@[simp] theorem State.pushMove_env_replies (m : Move) : (s.pushMove m).env.replies = s.env.replies := rfl

/-! ### beginRead -/

@[simp] theorem State.beginRead_connState (n : Nat) (d : Nat) : (s.beginRead n d).connState = s.connState := rfl
@[simp] theorem State.beginRead_connMode (n : Nat) (d : Nat) : (s.beginRead n d).connMode = s.connMode := rfl
@[simp] theorem State.beginRead_attemptsLeft (n : Nat) (d : Nat) : (s.beginRead n d).attemptsLeft = s.attemptsLeft := rfl
@[simp] theorem State.beginRead_initAddr (n : Nat) (d : Nat) : (s.beginRead n d).initAddr = s.initAddr := rfl
@[simp] theorem State.beginRead_secondAddr (n : Nat) (d : Nat) : (s.beginRead n d).secondAddr = s.secondAddr := rfl
@[simp] theorem State.beginRead_commAddr (n : Nat) (d : Nat) : (s.beginRead n d).commAddr = s.commAddr := rfl
@[simp] theorem State.beginRead_keyByte1 (n : Nat) (d : Nat) : (s.beginRead n d).keyByte1 = s.keyByte1 := rfl
@[simp] theorem State.beginRead_keyByte2 (n : Nat) (d : Nat) : (s.beginRead n d).keyByte2 = s.keyByte2 := rfl
@[simp] theorem State.beginRead_keyValid (n : Nat) (d : Nat) : (s.beginRead n d).keyValid = s.keyValid := rfl
@[simp] theorem State.beginRead_baud (n : Nat) (d : Nat) : (s.beginRead n d).baud = s.baud := rfl
@[simp] theorem State.beginRead_breakOut (n : Nat) (d : Nat) : (s.beginRead n d).breakOut = s.breakOut := rfl
@[simp] theorem State.beginRead_tpDefault (n : Nat) (d : Nat) : (s.beginRead n d).tpDefault = s.tpDefault := rfl
@[simp] theorem State.beginRead_tpCurrent (n : Nat) (d : Nat) : (s.beginRead n d).tpCurrent = s.tpCurrent := rfl
@[simp] theorem State.beginRead_tpLimits (n : Nat) (d : Nat) : (s.beginRead n d).tpLimits = s.tpLimits := rfl
@[simp] theorem State.beginRead_p2maxEff (n : Nat) (d : Nat) : (s.beginRead n d).p2maxEff = s.p2maxEff := rfl
@[simp] theorem State.beginRead_swP1 (n : Nat) (d : Nat) : (s.beginRead n d).swP1 = s.swP1 := rfl
@[simp] theorem State.beginRead_swP2 (n : Nat) (d : Nat) : (s.beginRead n d).swP2 = s.swP2 := rfl
@[simp] theorem State.beginRead_swP3 (n : Nat) (d : Nat) : (s.beginRead n d).swP3 = s.swP3 := rfl
@[simp] theorem State.beginRead_swDisc (n : Nat) (d : Nat) : (s.beginRead n d).swDisc = s.swDisc := rfl
@[simp] theorem State.beginRead_rxbuf (n : Nat) (d : Nat) : (s.beginRead n d).rxbuf = s.rxbuf := rfl
@[simp] theorem State.beginRead_rxDirty (n : Nat) (d : Nat) : (s.beginRead n d).rxDirty = s.rxDirty := rfl
@[simp] theorem State.beginRead_p1Flush (n : Nat) (d : Nat) : (s.beginRead n d).p1Flush = s.p1Flush := rfl
@[simp] theorem State.beginRead_echoFifo (n : Nat) (d : Nat) : (s.beginRead n d).echoFifo = s.echoFifo := rfl
@[simp] theorem State.beginRead_ignoreCnt (n : Nat) (d : Nat) : (s.beginRead n d).ignoreCnt = s.ignoreCnt := rfl
@[simp] theorem State.beginRead_foundEcho (n : Nat) (d : Nat) : (s.beginRead n d).foundEcho = s.foundEcho := rfl
@[simp] theorem State.beginRead_txq (n : Nat) (d : Nat) : (s.beginRead n d).txq = s.txq := rfl
@[simp] theorem State.beginRead_expecting (n : Nat) (d : Nat) : (s.beginRead n d).expecting = s.expecting := rfl
@[simp] theorem State.beginRead_respCount (n : Nat) (d : Nat) : (s.beginRead n d).respCount = s.respCount := rfl
@[simp] theorem State.beginRead_unsolicited (n : Nat) (d : Nat) : (s.beginRead n d).unsolicited = s.unsolicited := rfl
@[simp] theorem State.beginRead_unanswered (n : Nat) (d : Nat) : (s.beginRead n d).unanswered = s.unanswered := rfl
@[simp] theorem State.beginRead_phase (n : Nat) (d : Nat) : (s.beginRead n d).phase = s.phase := rfl
@[simp] theorem State.beginRead_hsStep (n : Nat) (d : Nat) : (s.beginRead n d).hsStep = s.hsStep := rfl
@[simp] theorem State.beginRead_hsAddr (n : Nat) (d : Nat) : (s.beginRead n d).hsAddr = s.hsAddr := rfl
@[simp] theorem State.beginRead_hsT0 (n : Nat) (d : Nat) : (s.beginRead n d).hsT0 = s.hsT0 := rfl
@[simp] theorem State.beginRead_hsKb (n : Nat) (d : Nat) : (s.beginRead n d).hsKb = s.hsKb := rfl
@[simp] theorem State.beginRead_hsKind (n : Nat) (d : Nat) : (s.beginRead n d).hsKind = s.hsKind := rfl
@[simp] theorem State.beginRead_hsChained (n : Nat) (d : Nat) : (s.beginRead n d).hsChained = s.hsChained := rfl
@[simp] theorem State.beginRead_lock (n : Nat) (d : Nat) : (s.beginRead n d).lock = s.lock := rfl
@[simp] theorem State.beginRead_events (n : Nat) (d : Nat) : (s.beginRead n d).events = s.events := rfl
@[simp] theorem State.beginRead_cfg (n : Nat) (d : Nat) : (s.beginRead n d).cfg = s.cfg := rfl
@[simp] theorem State.beginRead_micro (n : Nat) (d : Nat) : (s.beginRead n d).micro = .read n (s.env.now + d) := rfl
@[simp] theorem State.beginRead_frame (n : Nat) (d : Nat) : (s.beginRead n d).frame = s.frame := rfl
@[simp] theorem State.beginRead_env (n : Nat) (d : Nat) : (s.beginRead n d).env = s.env := rfl

/-! ### beginReread -/

@[simp] theorem State.beginReread_connState (n : Nat) (d : Nat) : (s.beginReread n d).connState = s.connState := rfl
@[simp] theorem State.beginReread_connMode (n : Nat) (d : Nat) : (s.beginReread n d).connMode = s.connMode := rfl
@[simp] theorem State.beginReread_attemptsLeft (n : Nat) (d : Nat) : (s.beginReread n d).attemptsLeft = s.attemptsLeft := rfl
@[simp] theorem State.beginReread_initAddr (n : Nat) (d : Nat) : (s.beginReread n d).initAddr = s.initAddr := rfl
@[simp] theorem State.beginReread_secondAddr (n : Nat) (d : Nat) : (s.beginReread n d).secondAddr = s.secondAddr := rfl
@[simp] theorem State.beginReread_commAddr (n : Nat) (d : Nat) : (s.beginReread n d).commAddr = s.commAddr := rfl
@[simp] theorem State.beginReread_keyByte1 (n : Nat) (d : Nat) : (s.beginReread n d).keyByte1 = s.keyByte1 := rfl
@[simp] theorem State.beginReread_keyByte2 (n : Nat) (d : Nat) : (s.beginReread n d).keyByte2 = s.keyByte2 := rfl
@[simp] theorem State.beginReread_keyValid (n : Nat) (d : Nat) : (s.beginReread n d).keyValid = s.keyValid := rfl
@[simp] theorem State.beginReread_baud (n : Nat) (d : Nat) : (s.beginReread n d).baud = s.baud := rfl
@[simp] theorem State.beginReread_breakOut (n : Nat) (d : Nat) : (s.beginReread n d).breakOut = s.breakOut := rfl
@[simp] theorem State.beginReread_tpDefault (n : Nat) (d : Nat) : (s.beginReread n d).tpDefault = s.tpDefault := rfl
@[simp] theorem State.beginReread_tpCurrent (n : Nat) (d : Nat) : (s.beginReread n d).tpCurrent = s.tpCurrent := rfl
@[simp] theorem State.beginReread_tpLimits (n : Nat) (d : Nat) : (s.beginReread n d).tpLimits = s.tpLimits := rfl
@[simp] theorem State.beginReread_p2maxEff (n : Nat) (d : Nat) : (s.beginReread n d).p2maxEff = s.p2maxEff := rfl
@[simp] theorem State.beginReread_swP1 (n : Nat) (d : Nat) : (s.beginReread n d).swP1 = s.swP1 := rfl
@[simp] theorem State.beginReread_swP2 (n : Nat) (d : Nat) : (s.beginReread n d).swP2 = s.swP2 := rfl
@[simp] theorem State.beginReread_swP3 (n : Nat) (d : Nat) : (s.beginReread n d).swP3 = s.swP3 := rfl
@[simp] theorem State.beginReread_swDisc (n : Nat) (d : Nat) : (s.beginReread n d).swDisc = s.swDisc := rfl
@[simp] theorem State.beginReread_rxbuf (n : Nat) (d : Nat) : (s.beginReread n d).rxbuf = s.rxbuf := rfl
@[simp] theorem State.beginReread_rxDirty (n : Nat) (d : Nat) : (s.beginReread n d).rxDirty = s.rxDirty := rfl
@[simp] theorem State.beginReread_p1Flush (n : Nat) (d : Nat) : (s.beginReread n d).p1Flush = s.p1Flush := rfl
@[simp] theorem State.beginReread_echoFifo (n : Nat) (d : Nat) : (s.beginReread n d).echoFifo = s.echoFifo := rfl
@[simp] theorem State.beginReread_ignoreCnt (n : Nat) (d : Nat) : (s.beginReread n d).ignoreCnt = s.ignoreCnt := rfl
@[simp] theorem State.beginReread_foundEcho (n : Nat) (d : Nat) : (s.beginReread n d).foundEcho = s.foundEcho := rfl
@[simp] theorem State.beginReread_txq (n : Nat) (d : Nat) : (s.beginReread n d).txq = s.txq := rfl
@[simp] theorem State.beginReread_expecting (n : Nat) (d : Nat) : (s.beginReread n d).expecting = s.expecting := rfl
@[simp] theorem State.beginReread_respCount (n : Nat) (d : Nat) : (s.beginReread n d).respCount = s.respCount := rfl
@[simp] theorem State.beginReread_unsolicited (n : Nat) (d : Nat) : (s.beginReread n d).unsolicited = s.unsolicited := rfl
@[simp] theorem State.beginReread_unanswered (n : Nat) (d : Nat) : (s.beginReread n d).unanswered = s.unanswered := rfl
@[simp] theorem State.beginReread_phase (n : Nat) (d : Nat) : (s.beginReread n d).phase = s.phase := rfl
@[simp] theorem State.beginReread_hsStep (n : Nat) (d : Nat) : (s.beginReread n d).hsStep = s.hsStep := rfl
@[simp] theorem State.beginReread_hsAddr (n : Nat) (d : Nat) : (s.beginReread n d).hsAddr = s.hsAddr := rfl
@[simp] theorem State.beginReread_hsT0 (n : Nat) (d : Nat) : (s.beginReread n d).hsT0 = s.hsT0 := rfl
@[simp] theorem State.beginReread_hsKb (n : Nat) (d : Nat) : (s.beginReread n d).hsKb = s.hsKb := rfl
@[simp] theorem State.beginReread_hsKind (n : Nat) (d : Nat) : (s.beginReread n d).hsKind = s.hsKind := rfl
@[simp] theorem State.beginReread_hsChained (n : Nat) (d : Nat) : (s.beginReread n d).hsChained = s.hsChained := rfl
@[simp] theorem State.beginReread_lock (n : Nat) (d : Nat) : (s.beginReread n d).lock = s.lock := rfl
@[simp] theorem State.beginReread_events (n : Nat) (d : Nat) : (s.beginReread n d).events = s.events := rfl
@[simp] theorem State.beginReread_cfg (n : Nat) (d : Nat) : (s.beginReread n d).cfg = s.cfg := rfl
@[simp] theorem State.beginReread_micro (n : Nat) (d : Nat) : (s.beginReread n d).micro = .reread n (s.env.now + d) := rfl
@[simp] theorem State.beginReread_frame (n : Nat) (d : Nat) : (s.beginReread n d).frame = s.frame := rfl
@[simp] theorem State.beginReread_env (n : Nat) (d : Nat) : (s.beginReread n d).env = s.env := rfl

/-! ### beginWait -/

@[simp] theorem State.beginWait_connState (d : Nat) : (s.beginWait d).connState = s.connState := rfl
@[simp] theorem State.beginWait_connMode (d : Nat) : (s.beginWait d).connMode = s.connMode := rfl
@[simp] theorem State.beginWait_attemptsLeft (d : Nat) : (s.beginWait d).attemptsLeft = s.attemptsLeft := rfl
@[simp] theorem State.beginWait_initAddr (d : Nat) : (s.beginWait d).initAddr = s.initAddr := rfl
@[simp] theorem State.beginWait_secondAddr (d : Nat) : (s.beginWait d).secondAddr = s.secondAddr := rfl
@[simp] theorem State.beginWait_commAddr (d : Nat) : (s.beginWait d).commAddr = s.commAddr := rfl
@[simp] theorem State.beginWait_keyByte1 (d : Nat) : (s.beginWait d).keyByte1 = s.keyByte1 := rfl
@[simp] theorem State.beginWait_keyByte2 (d : Nat) : (s.beginWait d).keyByte2 = s.keyByte2 := rfl
@[simp] theorem State.beginWait_keyValid (d : Nat) : (s.beginWait d).keyValid = s.keyValid := rfl
@[simp] theorem State.beginWait_baud (d : Nat) : (s.beginWait d).baud = s.baud := rfl
@[simp] theorem State.beginWait_breakOut (d : Nat) : (s.beginWait d).breakOut = s.breakOut := rfl
@[simp] theorem State.beginWait_tpDefault (d : Nat) : (s.beginWait d).tpDefault = s.tpDefault := rfl
@[simp] theorem State.beginWait_tpCurrent (d : Nat) : (s.beginWait d).tpCurrent = s.tpCurrent := rfl
@[simp] theorem State.beginWait_tpLimits (d : Nat) : (s.beginWait d).tpLimits = s.tpLimits := rfl
@[simp] theorem State.beginWait_p2maxEff (d : Nat) : (s.beginWait d).p2maxEff = s.p2maxEff := rfl
@[simp] theorem State.beginWait_swP1 (d : Nat) : (s.beginWait d).swP1 = s.swP1 := rfl
@[simp] theorem State.beginWait_swP2 (d : Nat) : (s.beginWait d).swP2 = s.swP2 := rfl
@[simp] theorem State.beginWait_swP3 (d : Nat) : (s.beginWait d).swP3 = s.swP3 := rfl
@[simp] theorem State.beginWait_swDisc (d : Nat) : (s.beginWait d).swDisc = s.swDisc := rfl
@[simp] theorem State.beginWait_rxbuf (d : Nat) : (s.beginWait d).rxbuf = s.rxbuf := rfl
@[simp] theorem State.beginWait_rxDirty (d : Nat) : (s.beginWait d).rxDirty = s.rxDirty := rfl
@[simp] theorem State.beginWait_p1Flush (d : Nat) : (s.beginWait d).p1Flush = s.p1Flush := rfl
@[simp] theorem State.beginWait_echoFifo (d : Nat) : (s.beginWait d).echoFifo = s.echoFifo := rfl
@[simp] theorem State.beginWait_ignoreCnt (d : Nat) : (s.beginWait d).ignoreCnt = s.ignoreCnt := rfl
@[simp] theorem State.beginWait_foundEcho (d : Nat) : (s.beginWait d).foundEcho = s.foundEcho := rfl
@[simp] theorem State.beginWait_txq (d : Nat) : (s.beginWait d).txq = s.txq := rfl
@[simp] theorem State.beginWait_expecting (d : Nat) : (s.beginWait d).expecting = s.expecting := rfl
@[simp] theorem State.beginWait_respCount (d : Nat) : (s.beginWait d).respCount = s.respCount := rfl
@[simp] theorem State.beginWait_unsolicited (d : Nat) : (s.beginWait d).unsolicited = s.unsolicited := rfl
@[simp] theorem State.beginWait_unanswered (d : Nat) : (s.beginWait d).unanswered = s.unanswered := rfl
@[simp] theorem State.beginWait_phase (d : Nat) : (s.beginWait d).phase = s.phase := rfl
@[simp] theorem State.beginWait_hsStep (d : Nat) : (s.beginWait d).hsStep = s.hsStep := rfl
@[simp] theorem State.beginWait_hsAddr (d : Nat) : (s.beginWait d).hsAddr = s.hsAddr := rfl
@[simp] theorem State.beginWait_hsT0 (d : Nat) : (s.beginWait d).hsT0 = s.hsT0 := rfl
@[simp] theorem State.beginWait_hsKb (d : Nat) : (s.beginWait d).hsKb = s.hsKb := rfl
@[simp] theorem State.beginWait_hsKind (d : Nat) : (s.beginWait d).hsKind = s.hsKind := rfl
@[simp] theorem State.beginWait_hsChained (d : Nat) : (s.beginWait d).hsChained = s.hsChained := rfl
@[simp] theorem State.beginWait_lock (d : Nat) : (s.beginWait d).lock = s.lock := rfl
@[simp] theorem State.beginWait_events (d : Nat) : (s.beginWait d).events = s.events := rfl
@[simp] theorem State.beginWait_cfg (d : Nat) : (s.beginWait d).cfg = s.cfg := rfl
@[simp] theorem State.beginWait_micro (d : Nat) : (s.beginWait d).micro = .wait (s.env.now + d) := rfl
@[simp] theorem State.beginWait_frame (d : Nat) : (s.beginWait d).frame = s.frame := rfl
@[simp] theorem State.beginWait_env (d : Nat) : (s.beginWait d).env = s.env := rfl

/-! ### seqNext -/

@[simp] theorem State.seqNext_connState : (s.seqNext).connState = s.connState := rfl
@[simp] theorem State.seqNext_connMode : (s.seqNext).connMode = s.connMode := rfl
@[simp] theorem State.seqNext_attemptsLeft : (s.seqNext).attemptsLeft = s.attemptsLeft := rfl
@[simp] theorem State.seqNext_initAddr : (s.seqNext).initAddr = s.initAddr := rfl
@[simp] theorem State.seqNext_secondAddr : (s.seqNext).secondAddr = s.secondAddr := rfl
@[simp] theorem State.seqNext_commAddr : (s.seqNext).commAddr = s.commAddr := rfl
@[simp] theorem State.seqNext_keyByte1 : (s.seqNext).keyByte1 = s.keyByte1 := rfl
@[simp] theorem State.seqNext_keyByte2 : (s.seqNext).keyByte2 = s.keyByte2 := rfl
@[simp] theorem State.seqNext_keyValid : (s.seqNext).keyValid = s.keyValid := rfl
@[simp] theorem State.seqNext_baud : (s.seqNext).baud = s.baud := rfl
@[simp] theorem State.seqNext_breakOut : (s.seqNext).breakOut = s.breakOut := rfl
@[simp] theorem State.seqNext_tpDefault : (s.seqNext).tpDefault = s.tpDefault := rfl
@[simp] theorem State.seqNext_tpCurrent : (s.seqNext).tpCurrent = s.tpCurrent := rfl
@[simp] theorem State.seqNext_tpLimits : (s.seqNext).tpLimits = s.tpLimits := rfl
@[simp] theorem State.seqNext_p2maxEff : (s.seqNext).p2maxEff = s.p2maxEff := rfl
@[simp] theorem State.seqNext_swP1 : (s.seqNext).swP1 = s.swP1 := rfl
@[simp] theorem State.seqNext_swP2 : (s.seqNext).swP2 = s.swP2 := rfl
@[simp] theorem State.seqNext_swP3 : (s.seqNext).swP3 = s.swP3 := rfl
@[simp] theorem State.seqNext_swDisc : (s.seqNext).swDisc = s.swDisc := rfl
@[simp] theorem State.seqNext_rxbuf : (s.seqNext).rxbuf = s.rxbuf := rfl
@[simp] theorem State.seqNext_rxDirty : (s.seqNext).rxDirty = s.rxDirty := rfl
@[simp] theorem State.seqNext_p1Flush : (s.seqNext).p1Flush = s.p1Flush := rfl
@[simp] theorem State.seqNext_echoFifo : (s.seqNext).echoFifo = s.echoFifo := rfl
@[simp] theorem State.seqNext_ignoreCnt : (s.seqNext).ignoreCnt = s.ignoreCnt := rfl
@[simp] theorem State.seqNext_foundEcho : (s.seqNext).foundEcho = s.foundEcho := rfl
@[simp] theorem State.seqNext_txq : (s.seqNext).txq = s.txq := rfl
@[simp] theorem State.seqNext_expecting : (s.seqNext).expecting = s.expecting := rfl
@[simp] theorem State.seqNext_respCount : (s.seqNext).respCount = s.respCount := rfl
@[simp] theorem State.seqNext_unsolicited : (s.seqNext).unsolicited = s.unsolicited := rfl
@[simp] theorem State.seqNext_unanswered : (s.seqNext).unanswered = s.unanswered := rfl
@[simp] theorem State.seqNext_phase : (s.seqNext).phase = s.phase := rfl
@[simp] theorem State.seqNext_hsStep : (s.seqNext).hsStep = s.hsStep := rfl
@[simp] theorem State.seqNext_hsAddr : (s.seqNext).hsAddr = s.hsAddr := rfl
@[simp] theorem State.seqNext_hsT0 : (s.seqNext).hsT0 = s.hsT0 := rfl
@[simp] theorem State.seqNext_hsKb : (s.seqNext).hsKb = s.hsKb := rfl
@[simp] theorem State.seqNext_hsKind : (s.seqNext).hsKind = s.hsKind := rfl
@[simp] theorem State.seqNext_hsChained : (s.seqNext).hsChained = s.hsChained := rfl
@[simp] theorem State.seqNext_lock : (s.seqNext).lock = s.lock := rfl
@[simp] theorem State.seqNext_events : (s.seqNext).events = s.events := rfl
@[simp] theorem State.seqNext_cfg : (s.seqNext).cfg = s.cfg := rfl
@[simp] theorem State.seqNext_micro : (s.seqNext).micro = s.micro := rfl
@[simp] theorem State.seqNext_frame : (s.seqNext).frame = s.frame := rfl
@[simp] theorem State.seqNext_env_now : (s.seqNext).env.now = s.env.now := rfl
@[simp] theorem State.seqNext_env_sched : (s.seqNext).env.sched = [] := rfl
@[simp] theorem State.seqNext_env_lineRx : (s.seqNext).env.lineRx = s.env.lineRx := rfl
@[simp] theorem State.seqNext_env_readAns : (s.seqNext).env.readAns = .normal := rfl
@[simp] theorem State.seqNext_env_writeCap : (s.seqNext).env.writeCap = s.env.writeCap := rfl
@[simp] theorem State.seqNext_env_lineLog : (s.seqNext).env.lineLog = s.env.lineLog := rfl
@[simp] theorem State.seqNext_env_replies : (s.seqNext).env.replies = s.env.replies := rfl

/-! ### atStep -/

@[simp] theorem State.atStep_connState (h : HsStep) (m : Micro) : (s.atStep h m).connState = s.connState := rfl
@[simp] theorem State.atStep_connMode (h : HsStep) (m : Micro) : (s.atStep h m).connMode = s.connMode := rfl
@[simp] theorem State.atStep_attemptsLeft (h : HsStep) (m : Micro) : (s.atStep h m).attemptsLeft = s.attemptsLeft := rfl
@[simp] theorem State.atStep_initAddr (h : HsStep) (m : Micro) : (s.atStep h m).initAddr = s.initAddr := rfl
@[simp] theorem State.atStep_secondAddr (h : HsStep) (m : Micro) : (s.atStep h m).secondAddr = s.secondAddr := rfl
@[simp] theorem State.atStep_commAddr (h : HsStep) (m : Micro) : (s.atStep h m).commAddr = s.commAddr := rfl
@[simp] theorem State.atStep_keyByte1 (h : HsStep) (m : Micro) : (s.atStep h m).keyByte1 = s.keyByte1 := rfl
@[simp] theorem State.atStep_keyByte2 (h : HsStep) (m : Micro) : (s.atStep h m).keyByte2 = s.keyByte2 := rfl
@[simp] theorem State.atStep_keyValid (h : HsStep) (m : Micro) : (s.atStep h m).keyValid = s.keyValid := rfl
@[simp] theorem State.atStep_baud (h : HsStep) (m : Micro) : (s.atStep h m).baud = s.baud := rfl
@[simp] theorem State.atStep_breakOut (h : HsStep) (m : Micro) : (s.atStep h m).breakOut = s.breakOut := rfl
@[simp] theorem State.atStep_tpDefault (h : HsStep) (m : Micro) : (s.atStep h m).tpDefault = s.tpDefault := rfl
@[simp] theorem State.atStep_tpCurrent (h : HsStep) (m : Micro) : (s.atStep h m).tpCurrent = s.tpCurrent := rfl
@[simp] theorem State.atStep_tpLimits (h : HsStep) (m : Micro) : (s.atStep h m).tpLimits = s.tpLimits := rfl
@[simp] theorem State.atStep_p2maxEff (h : HsStep) (m : Micro) : (s.atStep h m).p2maxEff = s.p2maxEff := rfl
@[simp] theorem State.atStep_swP1 (h : HsStep) (m : Micro) : (s.atStep h m).swP1 = s.swP1 := rfl
@[simp] theorem State.atStep_swP2 (h : HsStep) (m : Micro) : (s.atStep h m).swP2 = s.swP2 := rfl
@[simp] theorem State.atStep_swP3 (h : HsStep) (m : Micro) : (s.atStep h m).swP3 = s.swP3 := rfl
@[simp] theorem State.atStep_swDisc (h : HsStep) (m : Micro) : (s.atStep h m).swDisc = s.swDisc := rfl
@[simp] theorem State.atStep_rxbuf (h : HsStep) (m : Micro) : (s.atStep h m).rxbuf = s.rxbuf := rfl
@[simp] theorem State.atStep_rxDirty (h : HsStep) (m : Micro) : (s.atStep h m).rxDirty = s.rxDirty := rfl
@[simp] theorem State.atStep_p1Flush (h : HsStep) (m : Micro) : (s.atStep h m).p1Flush = s.p1Flush := rfl
@[simp] theorem State.atStep_echoFifo (h : HsStep) (m : Micro) : (s.atStep h m).echoFifo = s.echoFifo := rfl
@[simp] theorem State.atStep_ignoreCnt (h : HsStep) (m : Micro) : (s.atStep h m).ignoreCnt = s.ignoreCnt := rfl
@[simp] theorem State.atStep_foundEcho (h : HsStep) (m : Micro) : (s.atStep h m).foundEcho = s.foundEcho := rfl
@[simp] theorem State.atStep_txq (h : HsStep) (m : Micro) : (s.atStep h m).txq = s.txq := rfl
@[simp] theorem State.atStep_expecting (h : HsStep) (m : Micro) : (s.atStep h m).expecting = s.expecting := rfl
@[simp] theorem State.atStep_respCount (h : HsStep) (m : Micro) : (s.atStep h m).respCount = s.respCount := rfl
@[simp] theorem State.atStep_unsolicited (h : HsStep) (m : Micro) : (s.atStep h m).unsolicited = s.unsolicited := rfl
@[simp] theorem State.atStep_unanswered (h : HsStep) (m : Micro) : (s.atStep h m).unanswered = s.unanswered := rfl
@[simp] theorem State.atStep_phase (h : HsStep) (m : Micro) : (s.atStep h m).phase = .a := rfl
@[simp] theorem State.atStep_hsStep (h : HsStep) (m : Micro) : (s.atStep h m).hsStep = h := rfl
@[simp] theorem State.atStep_hsAddr (h : HsStep) (m : Micro) : (s.atStep h m).hsAddr = s.hsAddr := rfl
@[simp] theorem State.atStep_hsT0 (h : HsStep) (m : Micro) : (s.atStep h m).hsT0 = s.hsT0 := rfl
@[simp] theorem State.atStep_hsKb (h : HsStep) (m : Micro) : (s.atStep h m).hsKb = s.hsKb := rfl
@[simp] theorem State.atStep_hsKind (h : HsStep) (m : Micro) : (s.atStep h m).hsKind = s.hsKind := rfl
@[simp] theorem State.atStep_hsChained (h : HsStep) (m : Micro) : (s.atStep h m).hsChained = s.hsChained := rfl
@[simp] theorem State.atStep_lock (h : HsStep) (m : Micro) : (s.atStep h m).lock = s.lock := rfl
@[simp] theorem State.atStep_events (h : HsStep) (m : Micro) : (s.atStep h m).events = s.events := rfl
@[simp] theorem State.atStep_cfg (h : HsStep) (m : Micro) : (s.atStep h m).cfg = s.cfg := rfl
@[simp] theorem State.atStep_micro (h : HsStep) (m : Micro) : (s.atStep h m).micro = m := rfl
@[simp] theorem State.atStep_frame (h : HsStep) (m : Micro) : (s.atStep h m).frame = s.frame := rfl
@[simp] theorem State.atStep_env (h : HsStep) (m : Micro) : (s.atStep h m).env = s.env := rfl

/-! ### enterDisconnected -/

@[simp] theorem State.enterDisconnected_connMode (c : EntryCause) : (s.enterDisconnected c).connMode = s.connMode := by unfold State.enterDisconnected; split <;> rfl
@[simp] theorem State.enterDisconnected_attemptsLeft (c : EntryCause) : (s.enterDisconnected c).attemptsLeft = s.attemptsLeft := by unfold State.enterDisconnected; split <;> rfl
@[simp] theorem State.enterDisconnected_initAddr (c : EntryCause) : (s.enterDisconnected c).initAddr = s.initAddr := by unfold State.enterDisconnected; split <;> rfl
@[simp] theorem State.enterDisconnected_secondAddr (c : EntryCause) : (s.enterDisconnected c).secondAddr = s.secondAddr := by unfold State.enterDisconnected; split <;> rfl
@[simp] theorem State.enterDisconnected_commAddr (c : EntryCause) : (s.enterDisconnected c).commAddr = s.commAddr := by unfold State.enterDisconnected; split <;> rfl
@[simp] theorem State.enterDisconnected_baud (c : EntryCause) : (s.enterDisconnected c).baud = s.baud := by unfold State.enterDisconnected; split <;> rfl
@[simp] theorem State.enterDisconnected_breakOut (c : EntryCause) : (s.enterDisconnected c).breakOut = s.breakOut := by unfold State.enterDisconnected; split <;> rfl
@[simp] theorem State.enterDisconnected_tpDefault (c : EntryCause) : (s.enterDisconnected c).tpDefault = s.tpDefault := by unfold State.enterDisconnected; split <;> rfl
@[simp] theorem State.enterDisconnected_tpLimits (c : EntryCause) : (s.enterDisconnected c).tpLimits = s.tpLimits := by unfold State.enterDisconnected; split <;> rfl
@[simp] theorem State.enterDisconnected_phase (c : EntryCause) : (s.enterDisconnected c).phase = s.phase := by unfold State.enterDisconnected; split <;> rfl
@[simp] theorem State.enterDisconnected_hsStep (c : EntryCause) : (s.enterDisconnected c).hsStep = s.hsStep := by unfold State.enterDisconnected; split <;> rfl
@[simp] theorem State.enterDisconnected_hsAddr (c : EntryCause) : (s.enterDisconnected c).hsAddr = s.hsAddr := by unfold State.enterDisconnected; split <;> rfl
@[simp] theorem State.enterDisconnected_hsT0 (c : EntryCause) : (s.enterDisconnected c).hsT0 = s.hsT0 := by unfold State.enterDisconnected; split <;> rfl
@[simp] theorem State.enterDisconnected_hsKb (c : EntryCause) : (s.enterDisconnected c).hsKb = s.hsKb := by unfold State.enterDisconnected; split <;> rfl
@[simp] theorem State.enterDisconnected_hsKind (c : EntryCause) : (s.enterDisconnected c).hsKind = s.hsKind := by unfold State.enterDisconnected; split <;> rfl
@[simp] theorem State.enterDisconnected_hsChained (c : EntryCause) : (s.enterDisconnected c).hsChained = s.hsChained := by unfold State.enterDisconnected; split <;> rfl
@[simp] theorem State.enterDisconnected_lock (c : EntryCause) : (s.enterDisconnected c).lock = s.lock := by unfold State.enterDisconnected; split <;> rfl
@[simp] theorem State.enterDisconnected_cfg (c : EntryCause) : (s.enterDisconnected c).cfg = s.cfg := by unfold State.enterDisconnected; split <;> rfl
@[simp] theorem State.enterDisconnected_micro (c : EntryCause) : (s.enterDisconnected c).micro = s.micro := by unfold State.enterDisconnected; split <;> rfl
@[simp] theorem State.enterDisconnected_frame (c : EntryCause) : (s.enterDisconnected c).frame = s.frame := by unfold State.enterDisconnected; split <;> rfl
@[simp] theorem State.enterDisconnected_env (c : EntryCause) : (s.enterDisconnected c).env = s.env := by unfold State.enterDisconnected; split <;> rfl

end Sys2Proof.Machine
end

