-- ==== Sys2Proof/Laws/Ops.lean ====
section
/-! SUPPORT. What each shared operation can do, said once: a proof cites these instead of unfolding the operation. -/

namespace Sys2Proof.Machine

variable (s t : State)

/-! ### The meanings by format -/

/-- Every row of format FMT is the shared header operation on its own form. -/
theorem exec_of_form {i : Instr} {f : Form} (h : i.form = some f) : exec i s = .next (s.header f) := by
  cases i <;> simp only [Instr.form, Option.some.injEq, reduceCtorEq] at h <;> subst h <;> rfl

/-- Every row of format SID, received, is the shared dispatch on its own number. -/
theorem exec_of_service_rx {i : Instr} {b : Byte} (h : i.service = some (b, .rx)) :
    exec i s = .next (s.dispatch { s.frame with sid := b }) := by
  cases i <;> simp only [Instr.service, Option.some.injEq, Prod.mk.injEq, reduceCtorEq] at h <;>
    obtain ⟨rfl, rfl⟩ := h <;> rfl

/-- Every row of format SID, to be sent, is the shared transmission of its own number. -/
theorem exec_of_service_tx {i : Instr} {b : Byte} (h : i.service = some (b, .tx)) : exec i s = s.transmit b := by
  cases i <;> simp only [Instr.service, Option.some.injEq, Prod.mk.injEq, reduceCtorEq] at h <;>
    obtain ⟨rfl, rfl⟩ := h <;> rfl

/-- Every row of format NRC is the shared branch on its own code. -/
theorem exec_of_responseCode {i : Instr} {c : Byte} (h : i.responseCode = some c) : exec i s = s.responseCode c := by
  cases i <;> simp only [Instr.responseCode, Option.some.injEq, reduceCtorEq] at h <;> subst h <;> rfl

/-! ### Stopwatches and clock -/

@[simp] theorem Stopwatch.advance_running (w : Stopwatch) (dt : Nat) : (w.advance dt).running = w.running := by
  unfold Stopwatch.advance; split <;> simp_all

theorem Stopwatch.advance_of_stopped {w : Stopwatch} (h : w.running = false) (dt : Nat) : w.advance dt = w := by
  simp [Stopwatch.advance, h]

theorem Stopwatch.advance_of_running {w : Stopwatch} (h : w.running = true) (dt : Nat) :
    w.advance dt = ⟨true, w.elapsed + dt⟩ := by
  simp [Stopwatch.advance, h]

theorem Stopwatch.advance_eq (w : Stopwatch) (dt : Nat) :
    w.advance dt = if w.running then ⟨true, w.elapsed + dt⟩ else w := by
  unfold Stopwatch.advance; split <;> simp_all

/-- A tick up to an instant to come brings the time there (R181). -/
theorem State.tick_to {t : Nat} (h : s.env.now < t) : s.tick (t - s.env.now) = s.waitedTo t := by
  have ht : s.env.now + (t - s.env.now) = t := by omega
  simp only [State.tick, State.waitedTo, Stopwatch.advance_eq, ht]

/-! ### The line -/

theorem State.readFails_eq_false (h : s.env.readAns ≠ .fail) : s.readFails = false := by
  cases h' : s.env.readAns <;> simp_all [State.readFails]

theorem State.readDone_of_ok (h : s.env.readAns ≠ .fail) (n : Nat) :
    s.readDone n = { s with env := { s.env with readAns := .normal, lineRx := s.env.lineRx.drop n } } := by
  simp [State.readDone, s.readFails_eq_false h]

theorem State.readBytes_of_ok (h : s.env.readAns ≠ .fail) (n : Nat) : s.readBytes n = s.env.lineRx.take n := by
  simp [State.readBytes, s.readFails_eq_false h]

/-- A read that does not fail takes what it returns from the line (R82). -/
theorem State.readDone_eq_took (h : s.env.readAns ≠ .fail) (n : Nat) :
    s.readDone n = s.took (s.env.lineRx.drop n) := by
  simp [s.readDone_of_ok h, State.took]

/-- A failed read takes nothing and is reported (R333). -/
theorem State.readDone_of_fail (h : s.env.readAns = .fail) (n : Nat) : s.readDone n = s.readFailed := by
  simp [State.readDone, State.readFails, State.readFailed, h]; rfl

theorem State.readBytes_of_fail (h : s.env.readAns = .fail) (n : Nat) : s.readBytes n = [] := by
  simp [State.readBytes, State.readFails, h]

/-- All that is written is taken when the line sets no bound below it. -/
theorem State.writeCount_full (bytes : List Byte)
    (h : s.env.writeCap = none ∨ ∃ c, s.env.writeCap = some c ∧ bytes.length ≤ c) :
    s.writeCount bytes = bytes.length := by
  rcases h with h | ⟨c, h, h'⟩
  · simp [State.writeCount, h]
  · simp [State.writeCount, h]; omega

theorem State.writeCount_short (bytes : List Byte) (n : Nat) (h : s.env.writeCap = some n) (h' : n < bytes.length) :
    s.writeCount bytes = n := by
  simp [State.writeCount, h]; omega

theorem State.writeCount_le (bytes : List Byte) : s.writeCount bytes ≤ bytes.length := by
  unfold State.writeCount; split <;> omega

/-! ### Buffer primitives -/

theorem State.rxAppend_length_le (bs : List Byte) (h : s.rxbuf.length ≤ s.cfg.rxbufCap) :
    (s.rxAppend bs).rxbuf.length ≤ s.cfg.rxbufCap := by
  simp only [State.rxAppend]
  split <;> simp <;> omega

theorem State.txqPush_of_room (e : Entry) (h : s.txq.length < s.cfg.txqCap) :
    s.txqPush e = some { s with txq := s.txq ++ [e] } := by
  simp [State.txqPush, h]

theorem State.txqPush_of_full (e : Entry) (h : s.cfg.txqCap ≤ s.txq.length) : s.txqPush e = none := by
  simp [State.txqPush, Nat.not_lt.mpr h]

theorem State.txqPushHead_of_room (e : Entry) (h : s.txq.length < s.cfg.txqCap) :
    s.txqPushHead e = some { s with txq := e :: s.txq } := by
  simp [State.txqPushHead, h]

theorem State.txqPushHead_of_full (e : Entry) (h : s.cfg.txqCap ≤ s.txq.length) : s.txqPushHead e = none := by
  simp [State.txqPushHead, Nat.not_lt.mpr h]

/-! ### Echo filter -/

theorem echoFilter_cons (b : Byte) (bs : List Byte) :
    echoFilter (b :: bs) s
      = ((if (echoByte b s).1 then b :: (echoFilter bs (echoByte b s).2).1 else (echoFilter bs (echoByte b s).2).1),
          (echoFilter bs (echoByte b s).2).2) := rfl

/-- With no echo outstanding everything is data. -/
theorem echoFilter_of_no_echo (bs : List Byte) (h : s.echoFifo = []) : echoFilter bs s = (bs, s) := by
  induction bs with
  | nil => rfl
  | cons b bs ih => simp [echoFilter_cons, echoByte, h, ih]

/-- What one byte can do to the echo state. -/
theorem echoByte_cases (b : Byte) :
    (s.echoFifo = [] ∧ echoByte b s = (true, s))
      ∨ (∃ xs, s.echoFifo = b :: xs
          ∧ echoByte b s = (false, { s with echoFifo := xs, ignoreCnt := 0, foundEcho := xs.isEmpty || s.foundEcho }))
      ∨ (∃ x xs, s.echoFifo = x :: xs ∧ b ≠ x ∧ 0 < s.ignoreCnt
          ∧ echoByte b s = (false, { s with ignoreCnt := s.ignoreCnt - 1 }))
      ∨ (∃ x xs, s.echoFifo = x :: xs ∧ b ≠ x ∧ s.ignoreCnt = 0
          ∧ echoByte b s = (true, { s with
              echoFifo := [], ignoreCnt := 0, foundEcho := false
              events := s.events ++ [.echoMismatch (x :: xs) b] })) := by
  unfold echoByte
  split
  · exact .inl ⟨by assumption, rfl⟩
  · rename_i x xs h
    by_cases hb : b = x
    · subst hb; exact .inr (.inl ⟨xs, h, by simp⟩)
    · by_cases hi : 0 < s.ignoreCnt
      · exact .inr (.inr (.inl ⟨x, xs, h, hb, hi, by simp [hb, hi]⟩))
      · exact .inr (.inr (.inr ⟨x, xs, h, hb, by omega, by simp [hb, hi]; rfl⟩))

/-! ### Probe read -/

/-- A probe read that returns a byte receives it (R189). -/
theorem State.probed_of_byte {b : Byte} {r : List Byte} (h : s.env.readAns ≠ .fail) (hl : s.env.lineRx = b :: r) :
    s.probed = (true, (s.took r).receive [b]) := by
  simp [State.probed, s.readBytes_of_ok h, s.readDone_eq_took h, hl]

theorem State.probed_of_none (h : s.env.readAns ≠ .fail) (hl : s.env.lineRx = []) :
    s.probed = (false, s.took []) := by
  simp [State.probed, s.readBytes_of_ok h, s.readDone_eq_took h, hl]

theorem State.probed_of_fail (h : s.env.readAns = .fail) : s.probed = (false, s.readFailed) := by
  simp [State.probed, s.readBytes_of_fail h, s.readDone_of_fail h]

/-! ### Scan -/

theorem State.header_of_scan (f : Form) (h : s.micro.flushing = false) : s.header f = s.scanOnce f := by
  cases hm : s.micro <;> simp_all [State.header, Micro.flushing]

theorem State.header_of_flush (f : Form) (k : Nat) (h : s.micro = .flush k) : s.header f = s.flushAt f k := by
  simp [State.header, h]

/-! ### Dispatch -/

theorem State.outstanding_of_expecting {e : Entry} {q : List Entry} (h : s.expecting = true) (hq : s.txq = e :: q) :
    s.outstanding = some e := by
  simp [State.outstanding, h, hq]

theorem State.dispatch_of_not_accepted (m : Message) (h : accepted s.cfg m = false) :
    s.dispatch m = (s.goto .start).raise (.messageIgnored m) := by
  simp [State.dispatch, h]

theorem State.dispatch_of_no_request (m : Message) (h : accepted s.cfg m = true) (ho : s.outstanding = none) :
    s.dispatch m = (s.goto .start).unsolicitedMsg m := by
  have ho' : (s.goto .start).outstanding = none := ho
  simp [State.dispatch, h, ho']

theorem State.dispatch_of_positive (m : Message) (e : Entry) (h : accepted s.cfg m = true)
    (ho : s.outstanding = some e) (hp : m.sid = positiveOf e.msg.sid) :
    s.dispatch m = (s.goto .start).matched.positive m e := by
  have ho' : (s.goto .start).outstanding = some e := ho
  simp [State.dispatch, h, ho', hp]

theorem State.dispatch_of_negative (m : Message) (e : Entry) (h : accepted s.cfg m = true)
    (ho : s.outstanding = some e) (hp : m.sid ≠ positiveOf e.msg.sid) (hs : m.sid = s.cfg.sidNegResp)
    (hd : m.data.head? = some e.msg.sid) :
    s.dispatch m = (s.goto .start).matched.negative m e := by
  have ho' : (s.goto .start).outstanding = some e := ho
  unfold State.dispatch
  simp only [State.goto_cfg, h, ho', if_true, if_neg hp]
  simp only [hs, hd, and_self, if_true]

theorem State.dispatch_of_unmatched (m : Message) (e : Entry) (h : accepted s.cfg m = true)
    (ho : s.outstanding = some e) (hp : m.sid ≠ positiveOf e.msg.sid)
    (hn : ¬(m.sid = s.cfg.sidNegResp ∧ m.data.head? = some e.msg.sid)) :
    s.dispatch m = (s.goto .start).unsolicitedMsg m := by
  have ho' : (s.goto .start).outstanding = some e := ho
  unfold State.dispatch
  simp only [State.goto_cfg, h, ho', if_true, if_neg hp]
  simp only [hn, if_false]

/-- A dispatch never starts another item but the response code's. -/
theorem State.negative_cases (m : Message) (e : Entry) :
    ((∃ a b l, m.data = a :: b :: l) ∧ s.negative m e = { s with frame := m, micro := .code })
      ∨ (m.data.length < 2 ∧ s.negative m e = s.negativeOther m e.msg) := by
  unfold State.negative
  split
  · exact .inl ⟨⟨_, _, _, by assumption⟩, rfl⟩
  · rename_i h
    rcases hd : m.data with _ | ⟨a, _ | ⟨b, l⟩⟩
    · exact .inr ⟨by simp, rfl⟩
    · exact .inr ⟨by simp, rfl⟩
    · exact absurd hd (h a b l)

/-! ### Transmission -/

/-- The transmission of a serializable head entry. -/
theorem State.transmit_cons {e : Entry} {q : List Entry} {f : List Byte} (hq : s.txq = e :: q)
    (hf : serialize e.msg = some f) :
    s.transmit e.msg.sid = if s.cfg.txPaceP4 then .next (s.sendPaced e q f)
      else .next ((s.lineWrite f).sent e q f (s.writeCount f)) := by
  simp [State.transmit, hq, hf]

theorem State.finalize_cons {e : Entry} {q : List Entry} (hq : s.txq = e :: q) (o : MsgOutcome) :
    s.finalize o = .next { s with
      txq := q, respCount := 0, expecting := false
      events := s.events ++ (if e.internal then [] else [.messageFinished e.msg o e.attempts]) } := by
  cases h : e.internal
  · simp [State.finalize, hq, h]; rfl
  · simp [State.finalize, hq, h]

/-- The codes, the rules R279 to R282 in R275's order, for a queue with a head. -/
theorem State.responseCode_cons {e : Entry} {q : List Entry} (hq : s.txq = e :: q) (c : Byte) :
    s.responseCode c =
      if c = s.cfg.rcResponsePending then .next (s.goto .start).responsePending
      else if c = s.cfg.rcBusy then .next ((s.goto .start).busyRepeat e q)
      else .next ((s.goto .start).negativeOther s.frame e.msg) := by
  unfold State.responseCode
  simp only [State.goto_cfg, State.goto_txq, hq, State.goto_frame]
  rfl

/-! ### The step by the front of the schedule -/

theorem step_of_empty (h : s.env.sched = []) : step s = seqMoves s := by simp [step, h]

theorem step_of_seq {r : List Move} (h : s.env.sched = .seq :: r) : step s = seqTurn s := by simp [step, h]

theorem step_of_tick {r : List Move} {dt : Nat} (h : s.env.sched = .tick dt :: r) : step s = clkTurn s dt := by
  simp [step, h]

theorem step_of_line {r : List Move} {bs : List Byte} (h : s.env.sched = .line bs :: r) : step s = lineTurn s bs := by
  simp [step, h]

theorem step_of_answer {r : List Move} {a : ReadAns} (h : s.env.sched = .answer a :: r) :
    step s = answerTurn s a := by
  simp [step, h]

theorem step_of_capWrite {r : List Move} {n : Nat} (h : s.env.sched = .capWrite n :: r) : step s = capTurn s n := by
  simp [step, h]

theorem step_of_host {r : List Move} {c : Byte} {ops : List Byte} (h : s.env.sched = .host c ops :: r) :
    step s = hostTurn s c ops := by
  simp [step, h]

/-- The sequencer's next micro-step is the meaning of the item at its position or an internal one. -/
theorem seqStep_cases :
    (∃ p bs i r, s.fetch = some (p, bs) ∧ decode p bs = .ok (i, r) ∧ seqStep s = exec i s)
      ∨ seqStep s = s.internal := by
  unfold seqStep
  split
  · rename_i p bs h
    split
    · rename_i i r hd; exact .inl ⟨p, bs, i, r, h, hd, rfl⟩
    · exact .inr rfl
  · exact .inr rfl

end Sys2Proof.Machine
end

