-- ==== Sys2Proof/Laws/PerInstr.lean ====
section
/-! SUPPORT. The family `Width`: how many bytes an item takes at its place. -/

namespace Sys2Proof.Laws

/-- The bytes of an item: two for the ten slots of the 5-baud character, at least one for a host command (its code byte),
one for every other item (30_encoding.md R131; log 10, log 11). -/
def Width.Statement (i : Instr) : Prop :=
  match i.port with
  | .char5 => (encode i).length = 2
  | .command => 1 ≤ (encode i).length
  | .header | .service _ | .code | .sync | .key1 | .key2 | .complement | .addrComplement | .wakeup =>
    (encode i).length = 1

theorem Width.h1x : Width.Statement .h1x := rfl
theorem Width.h1i (l : BitVec 6) : Width.Statement (.h1i l) := rfl
theorem Width.hrv (l : BitVec 6) : Width.Statement (.hrv l) := rfl
theorem Width.h3px : Width.Statement .h3px := rfl
theorem Width.h3pi (l : BitVec 6) : Width.Statement (.h3pi l) := rfl
theorem Width.h3fx : Width.Statement .h3fx := rfl
theorem Width.h3fi (l : BitVec 6) : Width.Statement (.h3fi l) := rfl
theorem Width.startCommunicationReq (d : Dir) : Width.Statement (.startCommunicationReq d) := rfl
theorem Width.startCommunicationPos (d : Dir) : Width.Statement (.startCommunicationPos d) := rfl
theorem Width.stopCommunicationReq (d : Dir) : Width.Statement (.stopCommunicationReq d) := rfl
theorem Width.stopCommunicationPos (d : Dir) : Width.Statement (.stopCommunicationPos d) := rfl
theorem Width.testerPresentReq (d : Dir) : Width.Statement (.testerPresentReq d) := rfl
theorem Width.testerPresentPos (d : Dir) : Width.Statement (.testerPresentPos d) := rfl
theorem Width.startDiagnosticSessionReq (d : Dir) : Width.Statement (.startDiagnosticSessionReq d) := rfl
theorem Width.startDiagnosticSessionPos (d : Dir) : Width.Statement (.startDiagnosticSessionPos d) := rfl
theorem Width.readMemoryByAddressReq (d : Dir) : Width.Statement (.readMemoryByAddressReq d) := rfl
theorem Width.readMemoryByAddressPos (d : Dir) : Width.Statement (.readMemoryByAddressPos d) := rfl
theorem Width.writeMemoryByAddressReq (d : Dir) : Width.Statement (.writeMemoryByAddressReq d) := rfl
theorem Width.writeMemoryByAddressPos (d : Dir) : Width.Statement (.writeMemoryByAddressPos d) := rfl
theorem Width.securityAccessReq (d : Dir) : Width.Statement (.securityAccessReq d) := rfl
theorem Width.securityAccessPos (d : Dir) : Width.Statement (.securityAccessPos d) := rfl
theorem Width.requestDownloadReq (d : Dir) : Width.Statement (.requestDownloadReq d) := rfl
theorem Width.requestDownloadPos (d : Dir) : Width.Statement (.requestDownloadPos d) := rfl
theorem Width.requestUploadReq (d : Dir) : Width.Statement (.requestUploadReq d) := rfl
theorem Width.requestUploadPos (d : Dir) : Width.Statement (.requestUploadPos d) := rfl
theorem Width.transferDataReq (d : Dir) : Width.Statement (.transferDataReq d) := rfl
theorem Width.transferDataPos (d : Dir) : Width.Statement (.transferDataPos d) := rfl
theorem Width.requestTransferExitReq (d : Dir) : Width.Statement (.requestTransferExitReq d) := rfl
theorem Width.requestTransferExitPos (d : Dir) : Width.Statement (.requestTransferExitPos d) := rfl
theorem Width.readECUIdentificationReq (d : Dir) : Width.Statement (.readECUIdentificationReq d) := rfl
theorem Width.readECUIdentificationPos (d : Dir) : Width.Statement (.readECUIdentificationPos d) := rfl
theorem Width.readDataByLocalIdentifierReq (d : Dir) : Width.Statement (.readDataByLocalIdentifierReq d) := rfl
theorem Width.readDataByLocalIdentifierPos (d : Dir) : Width.Statement (.readDataByLocalIdentifierPos d) := rfl
theorem Width.readDataByCommonIdentifierReq (d : Dir) : Width.Statement (.readDataByCommonIdentifierReq d) := rfl
theorem Width.readDataByCommonIdentifierPos (d : Dir) : Width.Statement (.readDataByCommonIdentifierPos d) := rfl
theorem Width.readDiagnosticTroubleCodesByStatusReq (d : Dir) : Width.Statement (.readDiagnosticTroubleCodesByStatusReq d) := rfl
theorem Width.readDiagnosticTroubleCodesByStatusPos (d : Dir) : Width.Statement (.readDiagnosticTroubleCodesByStatusPos d) := rfl
theorem Width.clearDiagnosticInformationReq (d : Dir) : Width.Statement (.clearDiagnosticInformationReq d) := rfl
theorem Width.clearDiagnosticInformationPos (d : Dir) : Width.Statement (.clearDiagnosticInformationPos d) := rfl
theorem Width.vendorDataLoggingDefineReq (d : Dir) : Width.Statement (.vendorDataLoggingDefineReq d) := rfl
theorem Width.vendorDataLoggingDefinePos (d : Dir) : Width.Statement (.vendorDataLoggingDefinePos d) := rfl
theorem Width.vendorDataLoggingReadReq (d : Dir) : Width.Statement (.vendorDataLoggingReadReq d) := rfl
theorem Width.vendorDataLoggingReadPos (d : Dir) : Width.Statement (.vendorDataLoggingReadPos d) := rfl
theorem Width.negativeResponse (d : Dir) : Width.Statement (.negativeResponse d) := rfl
theorem Width.anyResponse (b : Byte) (d : Dir) : Width.Statement (.anyResponse b d) := rfl
theorem Width.anyRequest (b : Byte) (d : Dir) : Width.Statement (.anyRequest b d) := rfl
theorem Width.responsePending : Width.Statement .responsePending := rfl
theorem Width.busyRepeatRequest : Width.Statement .busyRepeatRequest := rfl
theorem Width.otherCode (c : Byte) : Width.Statement (.otherCode c) := rfl
theorem Width.sync : Width.Statement .sync := rfl
theorem Width.addr5 (a : BitVec 7) : Width.Statement (.addr5 a) := rfl
theorem Width.kb1 (p t u h b : Bool) (x : BitVec 2) : Width.Statement (.kb1 p t u h b x) := rfl
theorem Width.kb2 (p : Bool) (x : BitVec 7) : Width.Statement (.kb2 p x) := rfl
theorem Width.kb2Complement (n : Byte) : Width.Statement (.kb2Complement n) := rfl
theorem Width.addrComplement (n : Byte) : Width.Statement (.addrComplement n) := rfl
theorem Width.fastWakeup : Width.Statement .fastWakeup := rfl
theorem Width.connect (mode : ConnMode) (addr : Byte) (second : Option Byte) (attempts : Nat) : Width.Statement (.connect mode addr second attempts) := by simp [Width.Statement, Instr.port, encode]
theorem Width.disconnect : Width.Statement .disconnect := by simp [Width.Statement, Instr.port, encode]
theorem Width.terminate : Width.Statement .terminate := by simp [Width.Statement, Instr.port, encode]
theorem Width.enqueue (m : Message) (probe : Bool) : Width.Statement (.enqueue m probe) := by simp [Width.Statement, Instr.port, encode]
theorem Width.setTiming (which : WhichTiming) (tp : TimingSet) : Width.Statement (.setTiming which tp) := by simp [Width.Statement, Instr.port, encode]
theorem Width.resetTiming : Width.Statement .resetTiming := by simp [Width.Statement, Instr.port, encode]
theorem Width.setBaud (rate : BitVec 32) : Width.Statement (.setBaud rate) := by simp [Width.Statement, Instr.port, encode]
theorem Width.readStatus (e : Element) : Width.Statement (.readStatus e) := by simp [Width.Statement, Instr.port, encode]
theorem Width.unassigned (code : Byte) : Width.Statement (.unassigned code) := by simp [Width.Statement, Instr.port, encode]

end Sys2Proof.Laws
end

