-- ==== Sys2Proof/Tests/Slice0.lean ====
section
/-! SUPPORT. The model's own tests: ill-formed terms refused, words written out from spec/30_encoding.md decoded, single
steps against vectors of spec/95_test_vectors.md ("V-…", whose outcomes that file derives from the rules), and for every
obligation with hypotheses a state and operands that meet them, clause by clause. -/

namespace Sys2Proof.Tests

open Sys2Proof Sys2Proof.Machine

/-! ### Helpers -/

/-- The instruction at the front of the bytes, at a place. -/
def dec (p : Port) (bs : List Byte) : Option Instr :=
  match decode p bs with
  | .ok (i, _) => some i
  | .error _ => none

/-- The outcome is a next state with the property `p`. -/
def ends (r : Result) (p : State → Bool) : Bool :=
  match r with
  | .next t => p t
  | .fault _ => false
  | .refused _ => false

/-- The start state C0 of 95_test_vectors.md, section 0. -/
def c0 : State :=
  { State.reset with
    connState := .connected, connMode := .fastInit, initAddr := 0x10#8, hsAddr := 0x10#8, commAddr := 0x10#8
    keyByte1 := 0x6F#8, keyByte2 := 0x0F#8, keyValid := true, swP3 := ⟨true, 0⟩ }

/-- The queue entry of a host request to 0x10 without data, sent once. -/
def sentEntry (sid : Byte) : Entry := ⟨⟨.physical, 0xF1#8, 0x10#8, sid, [], 0⟩, 1, false, false⟩

/-- C0 with that request outstanding, in phase C at the dispatch of a Physical message with the data `ds`. -/
def atDispatch (sid : Byte) (ds : List Byte) : State :=
  { c0 with
    phase := .c, lock := .seq, micro := .dispatch, expecting := true, txq := [sentEntry sid], swP2 := ⟨true, 30000⟩
    frame := ⟨.physical, 0x10#8, 0xF1#8, 0#8, ds, 0⟩ }

/-- C0 in phase E with the head entry unsent, at the transmission. -/
def atSend (sid : Byte) : State :=
  { c0 with
    phase := .e, lock := .seq, micro := .send, swP3 := ⟨true, 60000⟩
    txq := [⟨⟨.physical, 0xF1#8, 0x10#8, sid, [], 0⟩, 0, false, false⟩] }

/-- C0 in phase C before a scan of the bytes. -/
def atScan (bs : List Byte) : State := { c0 with phase := .c, lock := .seq, rxbuf := bs, rxDirty := true }

/-- A slow-init run at address 0x01 in a handshake step. -/
def atHs (h : HsStep) (m : Micro) : State :=
  { State.reset with
    connState := .connectionPending, hsAddr := 0x01#8, lock := .seq, hsStep := h, micro := m
    hsKb := [0xEF#8, 0x8F#8], hsKind := .kwp2000 }

/-- C0 in phase D, at one of its checks. -/
def atCheck (m : Micro) : State := { c0 with phase := .d, lock := .seq, micro := m }

/-- The state with the bytes `bs` in the line, and its answer to the next read. -/
def withLine (s : State) (bs : List Byte) (a : ReadAns) : State :=
  { s with env := { s.env with lineRx := bs, readAns := a } }

/-- The state with the line taking `n` bytes of the next write. -/
def withCap (s : State) (n : Nat) : State := { s with env := { s.env with writeCap := some n } }

/-! ### Well-formedness: each check refuses an ill-formed term -/

theorem wf_h1i_length_zero : (Instr.h1i 0#6).wf = false := by decide
theorem wf_h3pi_length_zero : (Instr.h3pi 0#6).wf = false := by decide
theorem wf_h3fi_length_zero : (Instr.h3fi 0#6).wf = false := by decide
theorem wf_anyResponse_request_bit : (Instr.anyResponse 0x00#8 .rx).wf = false := by decide
theorem wf_anyResponse_named : (Instr.anyResponse 0x7F#8 .rx).wf = false := by decide
theorem wf_anyRequest_response_bit : (Instr.anyRequest 0x40#8 .tx).wf = false := by decide
theorem wf_anyRequest_named : (Instr.anyRequest 0x3E#8 .tx).wf = false := by decide
theorem wf_otherCode_pending : (Instr.otherCode 0x78#8).wf = false := by decide
theorem wf_otherCode_busy : (Instr.otherCode 0x21#8).wf = false := by decide
theorem wf_connect_attempts : (Instr.connect .slowInit 0#8 none (2 ^ 64)).wf = false := by decide
theorem wf_enqueue_retries : (Instr.enqueue ⟨.none, 0#8, 0#8, 0#8, [], 2 ^ 64⟩ false).wf = false := by decide
theorem wf_setTiming_field : (Instr.setTiming .current ⟨0, 0, 0, 0, 0, 2 ^ 32⟩).wf = false := by decide
theorem wf_unassigned_assigned : (Instr.unassigned 0x05#8).wf = false := by decide

/-! ### Decoding: the bit texts of 30_encoding.md written out -/

/-- R111 to R113, R120: mode in bits 7 and 6, inline length in bits 5 to 0. -/
theorem decode_headers :
    ([0b00000000#8, 0b00000001#8, 0b00111111#8, 0b01000000#8, 0b01111111#8, 0b10000000#8, 0b10000011#8, 0b11000000#8,
      0b11100000#8].map fun b => dec .header [b])
      = [some .h1x, some (.h1i 1#6), some (.h1i 63#6), some (.hrv 0#6), some (.hrv 63#6), some .h3px,
         some (.h3pi 3#6), some .h3fx, some (.h3fi 32#6)] := by decide

/-- R122, the first half of the table, received. -/
theorem decode_services_a :
    ([0x81#8, 0xC1#8, 0x82#8, 0xC2#8, 0x3E#8, 0x7E#8, 0x10#8, 0x50#8, 0x23#8, 0x63#8, 0x3D#8, 0x7D#8, 0x27#8, 0x67#8,
      0x34#8, 0x74#8, 0x35#8, 0x75#8].map fun b => dec (.service .rx) [b])
      = [some (.startCommunicationReq .rx), some (.startCommunicationPos .rx), some (.stopCommunicationReq .rx),
         some (.stopCommunicationPos .rx), some (.testerPresentReq .rx), some (.testerPresentPos .rx),
         some (.startDiagnosticSessionReq .rx), some (.startDiagnosticSessionPos .rx),
         some (.readMemoryByAddressReq .rx), some (.readMemoryByAddressPos .rx), some (.writeMemoryByAddressReq .rx),
         some (.writeMemoryByAddressPos .rx), some (.securityAccessReq .rx), some (.securityAccessPos .rx),
         some (.requestDownloadReq .rx), some (.requestDownloadPos .rx), some (.requestUploadReq .rx),
         some (.requestUploadPos .rx)] := by decide

/-- R122, the second half, at the head of the queue; R121's two generic rows last. -/
theorem decode_services_b :
    ([0x36#8, 0x76#8, 0x37#8, 0x77#8, 0x1A#8, 0x5A#8, 0x21#8, 0x61#8, 0x22#8, 0x62#8, 0x18#8, 0x58#8, 0x14#8, 0x54#8,
      0xB7#8, 0xF7#8, 0xB8#8, 0xF8#8, 0x7F#8, 0b11111111#8, 0b00000000#8].map fun b => dec (.service .tx) [b])
      = [some (.transferDataReq .tx), some (.transferDataPos .tx), some (.requestTransferExitReq .tx),
         some (.requestTransferExitPos .tx), some (.readECUIdentificationReq .tx),
         some (.readECUIdentificationPos .tx), some (.readDataByLocalIdentifierReq .tx),
         some (.readDataByLocalIdentifierPos .tx), some (.readDataByCommonIdentifierReq .tx),
         some (.readDataByCommonIdentifierPos .tx), some (.readDiagnosticTroubleCodesByStatusReq .tx),
         some (.readDiagnosticTroubleCodesByStatusPos .tx), some (.clearDiagnosticInformationReq .tx),
         some (.clearDiagnosticInformationPos .tx), some (.vendorDataLoggingDefineReq .tx),
         some (.vendorDataLoggingDefinePos .tx), some (.vendorDataLoggingReadReq .tx),
         some (.vendorDataLoggingReadPos .tx), some (.negativeResponse .tx), some (.anyResponse 0xFF#8 .tx),
         some (.anyRequest 0x00#8 .tx)] := by decide

/-- R123. -/
theorem decode_codes :
    ([0x78#8, 0x21#8, 0x11#8].map fun b => dec .code [b])
      = [some .responsePending, some .busyRepeatRequest, some (.otherCode 0x11#8)] := by decide

/-- R125: address 0x11 is the ten slots 0 1000100 1 1, address 0x01 the slots 0 1000000 0 1 (the table of
95_test_vectors.md 2.3); a wrong parity, start or stop slot is no character. The word's low byte comes first (log 11). -/
theorem decode_character :
    ([0b0100010011, 0b0100000001, 0b0100000011, 0b1100000001, 0b0100000000].map fun w : Nat =>
        dec .char5 (natBytes 2 w))
      = [some (.addr5 0x11#7), some (.addr5 0x01#7), none, none, none] := by decide

/-- R126, R127, R128: the other rows of format HS, and the words that are none. -/
theorem decode_handshake :
    [dec .sync [0b01010101#8], dec .sync [0b01010100#8], dec .key1 [0b11101111#8], dec .key1 [0b01001001#8],
      dec .key1 [0b10001111#8], dec .key2 [0b10001111#8], dec .complement [0x70#8], dec .addrComplement [0xFE#8],
      dec .wakeup [0b101#8], dec .wakeup [0b001#8]]
      = [some .sync, none, some (.kb1 true true false true true 0b11#2), some (.kb1 false false false true false 0b01#2),
         none, some (.kb2 true 0b0001111#7), some (.kb2Complement 0x70#8), some (.addrComplement 0xFE#8),
         some .fastWakeup, none] := by decide

/-- R129: the command codes; the operand bytes are the model's layout (log 10). -/
theorem decode_commands :
    [dec .command [0x01#8, 1#8, 0x10#8, 1#8, 0x11#8, 3#8, 0#8, 0#8, 0#8, 0#8, 0#8, 0#8, 0#8], dec .command [0x02#8],
      dec .command [0x03#8],
      dec .command [0x04#8, 1#8, 1#8, 0x10#8, 0xF1#8, 0x23#8, 2#8, 0#8, 0#8, 0#8, 0#8, 0#8, 0#8, 0#8,
        2#8, 0#8, 0#8, 0#8, 0x38#8, 0xFE#8],
      dec .command (0x05#8 :: 1#8 :: (List.range 6).flatMap fun k => [BitVec.ofNat 8 k, 1#8, 0#8, 0#8]),
      dec .command [0x06#8], dec .command [0x07#8, 0x80#8, 0x25#8, 0#8, 0#8], dec .command [0x08#8, 37#8],
      dec .command [0x09#8], dec .command [0xFF#8], dec .command [0x00#8], dec .command [0x01#8, 2#8]]
      = [some (.connect .fastInit 0x10#8 (some 0x11#8) 3), some .disconnect, some .terminate,
         some (.enqueue ⟨.physical, 0xF1#8, 0x10#8, 0x23#8, [0x38#8, 0xFE#8], 2⟩ true),
         some (.setTiming .current ⟨256, 257, 258, 259, 260, 261⟩), some .resetTiming, some (.setBaud 9600#32),
         some (.readStatus .events), some (.unassigned 0x09#8), some (.unassigned 0xFF#8), some (.unassigned 0x00#8),
         none] := by decide

/-- The table's own words, without a place (log 18). -/
theorem decode_table_words :
    [decodeTableWord 8 0x83, decodeTableWord 8 0xC1, decodeTableWord 8 0x81, decodeTableWord 8 0x78,
      decodeTableWord 8 0x55, decodeTableWord 16 0b0100010011, decodeTableWord 8 0x07]
      = [some (.h3pi 3#6), some (.startCommunicationPos .rx), some (.startCommunicationReq .tx),
         some .responsePending, some .sync, some (.addr5 0x11#7), some (.setBaud 0#32)] := by decide

/-! ### Vectors -/

/-- V-C6, V-C7, V-C8. -/
theorem vector_serialize :
    serialize ⟨.functional, 0xF1#8, 0x33#8, 0x3E#8, [], 0⟩ = some [0xC1#8, 0x33#8, 0xF1#8, 0x3E#8, 0x23#8]
      ∧ serialize ⟨.none, 0#8, 0#8, 0x1A#8, [0x9B#8], 0⟩ = some [0x02#8, 0x1A#8, 0x9B#8, 0xB7#8]
      ∧ serialize ⟨.physical, 0xF1#8, 0x10#8, 0xB7#8, [1#8, 2#8, 3#8], 0⟩
          = some [0x84#8, 0x10#8, 0xF1#8, 0xB7#8, 1#8, 2#8, 3#8, 0x42#8] := by decide

/-- V-C9, V-C10, V-C11, the short inputs, V-C13 and the receive-only form. -/
theorem vector_parse :
    parseFrame 1024 [0x81#8, 0x11#8, 0xF1#8, 0x3E#8, 0xC0#8] 0 = .invalidChecksum
      ∧ parseFrame 1024 [0x80#8, 0x10#8, 0xF1#8, 0x3E#8, 0xC0#8] 0 = .notEnoughData 62
      ∧ parseFrame 1024 [0x41#8, 0x10#8, 0xF1#8, 0x3E#8, 0xC0#8] 0 = .noData
      ∧ parseFrame 1024 [0x80#8, 0x10#8] 0 = .notEnoughData 4
      ∧ parseFrame 1024 [0x00#8, 0x00#8, 0x55#8] 0 = .noData
      ∧ parseFrame 1024 [0x01#8, 0x10#8, 0x11#8, 0x3E#8, 0xE0#8] 0 = .message ⟨.none, 0#8, 0#8, 0x10#8, [], 0⟩ 3
      ∧ parseFrame 1024 [0x80#8, 0xF1#8, 0x10#8, 0x01#8, 0x7E#8, 0x00#8] 0
          = .message ⟨.physical, 0x10#8, 0xF1#8, 0x7E#8, [], 0⟩ 6 := by decide

/-- The four bytes of V-C17, scaled to `RXBUF_CAP` 261 and the offset 2: 2 + 260 > 261. -/
theorem vector_parse_capacity :
    parseFrame 261 [0#8, 0#8, 0x80#8, 1#8, 2#8, 0xFF#8] 2 = .requestedTooMuchData := by decide

/-- V-T1, V-T3, V-T4, V-T5. -/
theorem vector_enforce :
    enforce ⟨20, 25, 30, 0, 10, 5⟩ = ⟨20, 25, 38, 5, 18, 5⟩ ∧ enforce ⟨0, 0, 0, 0, 0, 0⟩ = ⟨0, 0, 13, 0, 13, 0⟩
      ∧ enforce ⟨20, 0, 2, 0, 1, 6000⟩ = ⟨20, 0, 13, 6000, 6013, 6000⟩
      ∧ enforce ⟨1, 2 ^ 30, 0, 2 ^ 30, 0, 2 ^ 30⟩
          = ⟨1, 2 ^ 30, 2 ^ 30 + 13, 2 ^ 30, 2 ^ 30 + 13, 2 ^ 30⟩ := by decide

/-- The table of 95_test_vectors.md 2.3: addresses 0x33 and 0x00. -/
theorem vector_levels :
    levels5 0x33#7 = [false, true, true, false, false, true, true, false, true, true]
      ∧ levels5 0x00#7 = [false, false, false, false, false, false, false, false, true, true] := by decide

/-- `kb1_valid` and `odd_ones` of 95_test_vectors.md 2.3. -/
theorem vector_key_bytes :
    ([0xEF#8, 0xE9#8, 0x6B#8, 0x4F#8, 0x6F#8, 0x8F#8, 0xFF#8, 0xC1#8, 0x01#8, 0xD0#8].map (kb1Valid false))
        = [true, true, true, true, true, false, false, false, false, false]
      ∧ kb1Valid true 0x6F#8 = false ∧ kb2Valid true 0x8F#8 = true ∧ kb2Valid true 0x6F#8 = false := by decide

/-- V-M9, V-M10. -/
theorem vector_echo :
    let s := { c0 with ignoreCnt := 1, echoFifo := [0x81#8, 0x10#8, 0xF1#8, 0x81#8, 0x03#8] }
    (echoFilter [0x00#8, 0x81#8, 0x10#8, 0xF1#8, 0x81#8, 0x03#8, 0x83#8] s).1 = [0x83#8]
      ∧ (echoFilter [0x00#8, 0x81#8, 0x10#8, 0xF1#8, 0x81#8, 0x03#8, 0x83#8] s).2.foundEcho = true
      ∧ (echoFilter [0x00#8, 0x00#8, 0x81#8, 0x10#8] s).1 = [0x00#8, 0x81#8, 0x10#8]
      ∧ (echoFilter [0x00#8, 0x00#8, 0x81#8, 0x10#8] s).2.events
          = [.echoMismatch [0x81#8, 0x10#8, 0xF1#8, 0x81#8, 0x03#8] 0x00#8] := by decide

/-- V-M14: the byte 40 is dropped with a framing error. -/
theorem vector_reserved_header :
    ends (exec (.hrv 0#6) (atScan [0x40#8, 0x81#8, 0xF1#8, 0x10#8, 0x7E#8, 0x00#8])) (fun t =>
      t.rxbuf == [0x81#8, 0xF1#8, 0x10#8, 0x7E#8, 0x00#8] && t.events == [.framingError .noData]) := by decide

/-- V-M16: a checksum off by one. -/
theorem vector_bad_checksum :
    ends (exec (.h3pi 3#6) (atScan [0x83#8, 0xF1#8, 0x10#8, 0xC1#8, 0xEF#8, 0x8F#8, 0xC4#8])) (fun t =>
      t.rxbuf == [0xF1#8, 0x10#8, 0xC1#8, 0xEF#8, 0x8F#8, 0xC4#8]
        && t.events == [.framingError .invalidChecksum]) := by decide

/-- V-M5 at the fifth unsolicited response. -/
theorem vector_fifth_unsolicited :
    ends (exec (.testerPresentPos .rx)
        { atDispatch 0x23#8 [] with expecting := false, txq := [], unsolicited := 4 }) (fun t =>
      t.connState == .disconnected && t.events.drop 1 ==
        [.forcedDisconnect .unsolicited, .connStateChanged .connected .disconnected]) := by decide

/-- V-M6: a wrong target. -/
theorem vector_wrong_target :
    let m : Message := ⟨.physical, 0x10#8, 0xF2#8, 0x7E#8, [], 0⟩
    ends (exec (.testerPresentPos .rx) { atDispatch 0x23#8 [] with frame := m }) (fun t =>
      t.events == [.messageIgnored m] && t.unsolicited == 0) := by decide

/-- V-F1: the positive response of a fast-init. -/
theorem vector_fast_init_connects :
    ends (exec (.startCommunicationPos .rx)
        { atDispatch 0x81#8 [0xEF#8, 0x8F#8] with
          connState := .connectionPending, commAddr := 0#8, keyByte1 := 0#8, keyByte2 := 0#8, keyValid := false
          txq := [{ sentEntry 0x81#8 with internal := true }] }) (fun t =>
      t.connState == .connected && t.commAddr == 0x10#8 && t.keyByte1 == 0x6F#8 && t.keyByte2 == 0x0F#8 && t.keyValid
        && t.respCount == 1 && t.events == [.connStateChanged .connectionPending .connected]) := by decide

/-- V-F3: its negative response. -/
theorem vector_fast_init_rejected :
    ends (exec (.otherCode 0x10#8)
        { atDispatch 0x81#8 [0x81#8, 0x10#8] with connState := .connectionPending, micro := .code
                                                  txq := [{ sentEntry 0x81#8 with internal := true }] }) (fun t =>
      t.events == [.forcedDisconnect .startCommRejected,
        .connStateChanged .connectionPending .disconnected]) := by decide

/-- V-M1: Busy. -/
theorem vector_busy :
    ends (exec .busyRepeatRequest { atDispatch 0x23#8 [0x23#8, 0x21#8] with micro := .code }) (fun t =>
      t.expecting == false && t.swP2 == ⟨false, 0⟩ && t.respCount == 0 && t.txq.map (·.attempts) == [0]) := by decide

/-- P2 of section 3: ResponsePending. -/
theorem vector_response_pending :
    ends (exec .responsePending { atDispatch 0x23#8 [0x23#8, 0x78#8] with micro := .code }) (fun t =>
      t.p2maxEff == 5000 && t.respCount == 0 && t.expecting && t.swP2 == ⟨true, 30000⟩) := by decide

/-- P7: StopCommunication goes out; its positive response disconnects. -/
theorem vector_stop_communication :
    ends (exec (.stopCommunicationReq .tx) (atSend 0x82#8)) (fun t =>
        t.env.lineLog == [⟨0, .write [0x81#8, 0x10#8, 0xF1#8, 0x82#8, 0x04#8] 5⟩]
          && t.echoFifo == [0x81#8, 0x10#8, 0xF1#8, 0x82#8, 0x04#8] && t.expecting && t.phase == .sleep)
      ∧ ends (exec (.stopCommunicationPos .rx)
          { atDispatch 0x82#8 [] with connState := .disconnectionPending
                                      txq := [{ sentEntry 0x82#8 with internal := true }] }) (fun t =>
        t.events == [.connStateChanged .disconnectionPending .disconnected]) := by decide

/-- V-M12: a write that takes nothing. -/
theorem vector_failed_write :
    ends (exec (.testerPresentReq .tx)
        { atSend 0x3E#8 with env := { (atSend 0x3E#8).env with writeCap := some 0 } }) (fun t =>
      t.events == [.transportError .write 0] && t.txq.map (·.attempts) == [1] && t.expecting == false
        && t.swP3 == ⟨true, 60000⟩) := by decide

/-- V-S1: key byte 1 EF goes on, the complement of 8F is 70, the address complement of 01 is FE. -/
theorem vector_slow_init :
    ends (exec (.kb1 true true false true true 0b11#2) (atHs .s5 .key1)) (fun t => t.micro == .key2)
      ∧ ends (exec (.kb2Complement 0x70#8) (atHs .s6 (.wait 0))) (fun t =>
          t.env.lineLog == [⟨0, .write [0x70#8] 1⟩] && t.micro == .read 1 50000)
      ∧ ends (exec (.addrComplement 0xFE#8) { atHs .s7 (.read 1 0) with env := { Env.reset with lineRx := [0xFE#8] } })
          (fun t => t.hsStep == .s8) := by decide

/-- V-S6 (the source's literal key bytes 8F 8F) and V-S8 fail the run. -/
theorem vector_slow_init_fails :
    ends (seqStep { atHs .s5 .key1 with hsKb := [0x8F#8, 0x8F#8] }) (fun t =>
        t.events == [.handshakeFailed .badKeyBytes, .connStateChanged .connectionPending .disconnected])
      ∧ ends (exec (.addrComplement 0xEE#8) { atHs .s7 (.read 1 0) with env := { Env.reset with lineRx := [0xEE#8] } })
          (fun t => t.events == [.handshakeFailed .addressComplement,
            .connStateChanged .connectionPending .disconnected]) := by decide

/-- V-H1, V-H2. -/
theorem vector_connect_refused :
    ends (exec (.connect .fastInit 0x10#8 none 1) c0) (fun t => t.events == [.commandRefused 0x01#8 .wrongState])
      ∧ ends (exec (.connect .fastInit 0x10#8 none 0) State.reset) (fun t =>
          t.events == [.commandRefused 0x01#8 .badOperand] && t.attemptsLeft == 0) := by decide

/-- V-H3, V-H6. -/
theorem vector_enqueue_refused :
    ends (exec (.enqueue ⟨.none, 0xF1#8, 0x10#8, 0x3E#8, [], 0⟩ false) c0) (fun t =>
        t.events == [.commandRefused 0x04#8 .notSerializable])
      ∧ ends (exec (.enqueue ⟨.physical, 0xF1#8, 0x10#8, 0x3E#8, [], 0⟩ false) State.reset) (fun t =>
          t.events == [.commandRefused 0x04#8 .wrongState]) := by decide

/-- V-H5: the sixteenth entry is taken, the seventeenth is not. -/
theorem vector_enqueue_full :
    ends (exec (.enqueue (sentEntry 0x1A#8).msg false) { c0 with txq := List.replicate 15 (sentEntry 0x1A#8) }) (fun t =>
        t.txq.length == 16 && t.env.replies == [.ok])
      ∧ ends (exec (.enqueue (sentEntry 0x1A#8).msg false) { c0 with txq := List.replicate 16 (sentEntry 0x1A#8) })
          (fun t => t.txq.length == 16 && t.events == [.commandRefused 0x04#8 .queueFull]) := by decide

/-- V-H7, V-H8. -/
theorem vector_set_timing :
    ends (exec (.setTiming .current ⟨20, 25, 30, 0, 10, 2 ^ 30 + 1⟩) c0) (fun t =>
        t.events == [.commandRefused 0x05#8 .badOperand] && t.tpCurrent == c0.tpCurrent)
      ∧ ends (exec (.setTiming .current ⟨20, 25, 30, 0, 10, 5⟩) c0) (fun t =>
          t.tpCurrent == ⟨20, 25, 38, 5, 18, 5⟩ && t.p2maxEff == 38 && t.tpDefault == c0.tpDefault) := by decide

/-- V-H10, V-H12, and R319 on V-E2's `BAUD`. -/
theorem vector_other_commands :
    ends (exec (.setBaud 9600#32) c0) (fun t => t.baud == 9600#32 && t.env.lineLog == [⟨0, .setBaud 9600#32⟩])
      ∧ ends (exec (.setBaud 0#32) c0) (fun t => t.events == [.commandRefused 0x07#8 .badOperand])
      ∧ ends (exec (.unassigned 0x09#8) c0) (fun t => t.events == [.commandRefused 0x09#8 .unknownCommand])
      ∧ ends (exec (.readStatus .baud) State.reset) (fun t => t.env.replies == [.value (.baud 10400#32)]) := by decide

/-- V-H11: TERMINATE with a message queued. -/
theorem vector_terminate :
    ends (exec .terminate { c0 with txq := [⟨⟨.physical, 0xF1#8, 0x10#8, 0x1A#8, [], 0⟩, 0, false, false⟩] }) (fun t =>
      t.events == [.messageFinished ⟨.physical, 0xF1#8, 0x10#8, 0x1A#8, [], 0⟩ .failed 0,
        .connStateChanged .connected .disconnected, .connStateChanged .disconnected .communicationTerminated]
      && t.txq == []) := by decide

/-- V-E1. -/
theorem vector_disconnect_entry :
    let s := { c0 with
      tpCurrent := ⟨20, 25, 38, 5, 18, 5⟩, baud := 9600#32, rxbuf := [0x83#8, 0xF1#8], echoFifo := [0xC0#8]
      txq := [sentEntry 0x23#8, { sentEntry 0x82#8 with internal := true }], unsolicited := 2, swP1 := ⟨true, 7⟩ }
    let t := s.forceDisconnect .p3Timeout
    t.events = [.forcedDisconnect .p3Timeout, .messageFinished (sentEntry 0x23#8).msg .failed 1,
        .connStateChanged .connected .disconnected]
      ∧ t.txq = [] ∧ t.rxbuf = [] ∧ t.swP1 = ⟨false, 0⟩ ∧ t.tpCurrent = t.tpDefault ∧ t.p2maxEff = 50
      ∧ t.baud = 9600#32 ∧ t.commAddr = 0x10#8 ∧ t.enterDisconnected .forced = t := by decide

/-- V-T6b, V-T6f and V-T6d at their boundaries. -/
theorem vector_thresholds :
    { c0 with swP2 := ⟨true, 100000⟩ }.p2Over = false ∧ { c0 with swP2 := ⟨true, 100001⟩ }.p2Over = true
      ∧ { c0 with swP3 := ⟨true, 5000000⟩ }.p3Over = false ∧ { c0 with swP3 := ⟨true, 5000001⟩ }.p3Over = true
      ∧ { c0 with swP3 := ⟨true, 54999⟩ }.p3MinOk = false ∧ { c0 with swP3 := ⟨true, 55000⟩ }.p3MinOk = true := by
  decide

/-! ### Witnesses: states and operands that meet the hypotheses of the obligations, clause by clause -/

/-- The request `02 1A 9B B7` of V-C7. -/
def frame7 : List Byte := [0x02#8, 0x1A#8, 0x9B#8, 0xB7#8]

/-- Its message. -/
def message7 : Message := ⟨.none, 0#8, 0#8, 0x1A#8, [0x9B#8], 0⟩

/-- A message of `n` zero bytes to 0x10. -/
def zeros (n : Nat) : Message := ⟨.physical, 0xF1#8, 0x10#8, 0x36#8, List.replicate n 0#8, 0⟩

theorem witness_decodeOfEncode :
    (Instr.h1i 63#6).wf = true ∧ (Instr.anyRequest 0x00#8 .tx).wf = true ∧ (Instr.otherCode 0xFF#8).wf = true
      ∧ (Instr.connect .slowInit 0xFF#8 (some 0#8) (2 ^ 64 - 1)).wf = true
      ∧ (Instr.enqueue { message7 with maxRetries := 2 ^ 64 - 1 } true).wf = true
      ∧ (Instr.setTiming .limits ⟨2 ^ 32 - 1, 0, 0, 0, 0, 0⟩).wf = true ∧ (Instr.unassigned 0xFF#8).wf = true := by
  decide

theorem witness_serializeLayout :
    serializable (zeros 62) = true ∧ serializable (zeros 63) = true ∧ serializable (zeros 254) = true
      ∧ serializable (zeros 255) = false ∧ serializable { message7 with dst := 1#8 } = false
      ∧ serializable message7 = true := by decide +kernel

theorem witness_parseOfSerialize : 260 ≤ 260 ∧ serialize message7 = some frame7 := by decide

/-- Both layouts: a byte changed in a frame without a length byte, at its second and last byte; and in one with a length
byte at byte 2, before the length byte at 3. -/
theorem witness_corruptedByteIsDetected :
    serialize message7 = some frame7 ∧ frame7[1]? ≠ some 0#8 ∧ frame7[3]? ≠ some 0#8
      ∧ (serialize (zeros 63)).isSome = true ∧ ((serialize (zeros 63)).getD [])[2]? ≠ some 0#8
      ∧ 63 ≤ (zeros 63).data.length := by decide +kernel

theorem witness_prefixNeedsMoreBytes : serialize message7 = some frame7 ∧ 0 < frame7.length ∧ 3 < frame7.length := by
  decide

theorem witness_parsedMessageIsAFrame : parseFrame 260 (0xFF#8 :: frame7) 1 = .message message7 4 := by decide

theorem witness_enforcePostcondition : (⟨1, 2 ^ 30, 0, 2 ^ 30, 0, 2 ^ 30⟩ : TimingSet).legal = true := by decide

/-- No read pending; one pending with its deadline at the tick's end, and inside it; one that is over; LINE's moves. -/
theorem witness_tickAdvances :
    let s := c0.pushMove (.tick 5)
    let r := (atHs .s3 (.read 1 5)).pushMove (.tick 5)
    (s.env.sched = [.tick 5] ∧ s.micro.pending = none)
      ∧ (r.env.sched = [.tick 5] ∧ r.micro.pending = some (1, 5) ∧ r.env.readAns = .normal
        ∧ r.env.lineRx.length < 1 ∧ r.env.now < 5 ∧ r.env.now + 5 ≤ 5)
      ∧ ((atHs .s3 (.read 1 4)).micro.pending = some (1, 4) ∧ 4 < r.env.now + 5)
      ∧ ((withLine r [] .early).env.readAns ≠ .normal ∧ 1 ≤ (withLine r [0x55#8] .normal).env.lineRx.length)
      ∧ (c0.pushMove (.line [0x55#8])).env.sched = [.line [0x55#8]]
      ∧ (c0.pushMove (.answer .fail)).env.sched = [.answer .fail]
      ∧ (c0.pushMove (.capWrite 0)).env.sched = [.capWrite 0] := by decide

/-- R82, log 16: a tick of 5 that meets a read with 4 to go is cut there, 1 of it is left. -/
theorem test_tick_is_cut :
    ends (step ((atHs .s3 (.read 1 4)).pushMove (.tick 5))) (fun t => t.env.now == 4 && t.env.sched == [.tick 1])
      ∧ ends (step (c0.pushMove (.tick 5))) (fun t => t.env.now == 5 && t.swP3 == ⟨true, 5⟩ && t.env.sched == []) := by
  decide

/-- One format byte of each of the six forms, and the frames behind them. -/
theorem witness_completeFrameIsReceived :
    (Instr.h3pi 1#6).form = some ⟨.physical, 1#6⟩ ∧ Form.carries ⟨.physical, 1#6⟩ [] = true
      ∧ (Instr.h1i 2#6).form = some ⟨.none, 2#6⟩ ∧ Form.carries ⟨.none, 2#6⟩ [0x9B#8] = true
      ∧ Instr.h1x.form = some ⟨.none, 0#6⟩ ∧ Form.carries ⟨.none, 0#6⟩ (List.replicate 254 0#8) = true
      ∧ Instr.h3px.form = some ⟨.physical, 0#6⟩ ∧ Form.carries ⟨.physical, 0#6⟩ [] = true
      ∧ Instr.h3fx.form = some ⟨.functional, 0#6⟩ ∧ Form.carries ⟨.functional, 0#6⟩ [] = true
      ∧ (Instr.h3fi 1#6).form = some ⟨.functional, 1#6⟩ ∧ Form.carries ⟨.functional, 1#6⟩ [] = true
      ∧ 260 ≤ (atScan []).cfg.rxbufCap ∧ (atScan []).micro.flushing = false
      ∧ (atScan [0x81#8, 0xF1#8, 0x10#8, 0x7E#8, 0x00#8, 0x55#8]).rxbuf
          = Form.frame ⟨.physical, 1#6⟩ 0xF1#8 0x10#8 0x7E#8 [] ++ [0x55#8] := by decide +kernel

/-- The three clauses: reserved mode; declared length 0 of a form without and with addresses; wrong checksum. -/
theorem witness_malformedFrameDropsOneByte :
    (Instr.hrv 0#6).form = some ⟨.reserved, 0#6⟩ ∧ (atScan [0x40#8]).rxbuf ≠ [] ∧ (atScan []).micro.flushing = false
      ∧ Instr.h1x.form = some ⟨.none, 0#6⟩ ∧ (atScan [0#8, 0#8]).rxbuf[1 + 2 * AddrCode.none.addrs]? = some 0#8
      ∧ (atScan [0xC0#8, 1#8, 2#8, 0#8]).rxbuf[1 + 2 * AddrCode.functional.addrs]? = some 0#8
      ∧ Form.carries ⟨.none, 2#6⟩ [0x9B#8] = true
      ∧ 0xB8#8 ≠ checksum (Form.body ⟨.none, 2#6⟩ 0#8 0#8 0x1A#8 [0x9B#8])
      ∧ (atScan [0x02#8, 0x1A#8, 0x9B#8, 0xB8#8]).rxbuf
          = Form.body ⟨.none, 2#6⟩ 0#8 0#8 0x1A#8 [0x9B#8] ++ [0xB8#8] := by decide

/-- The shortest and the longest proper prefix; an empty buffer, dirty and not. -/
theorem witness_incompleteFrameWaits :
    (atScan [0x02#8]).rxbuf = (Form.frame ⟨.none, 2#6⟩ 0#8 0#8 0x1A#8 [0x9B#8]).take 1
      ∧ (atScan [0x02#8, 0x1A#8, 0x9B#8]).rxbuf = (Form.frame ⟨.none, 2#6⟩ 0#8 0#8 0x1A#8 [0x9B#8]).take 3
      ∧ 3 < (Form.frame ⟨.none, 2#6⟩ 0#8 0#8 0x1A#8 [0x9B#8]).length
      ∧ (Instr.h1i 2#6).form = some ⟨.none, 2#6⟩ ∧ Form.carries ⟨.none, 2#6⟩ [0x9B#8] = true
      ∧ ((atScan []).phase = .c ∧ (atScan []).micro = .start ∧ (atScan []).p1Flush = false ∧ (atScan []).rxDirty = true
        ∧ (atScan []).rxbuf = [])
      ∧ ({ atScan [] with rxDirty := false } : State).rxDirty = false := by decide

/-- A frame behind a byte of garbage; an offset with no frame; the flush's beginning; its end with bytes, a response
expected, and without. -/
theorem witness_flushTakesFrame :
    let s := { atScan (0xFF#8 :: frame7) with micro := .flush 1, p1Flush := true }
    let t := { atScan [0x40#8] with micro := .flush 0, p1Flush := true }
    (s.micro = .flush [0xFF#8].length ∧ s.rxbuf = [0xFF#8] ++ Form.frame ⟨.none, 2#6⟩ 0#8 0#8 0x1A#8 [0x9B#8] ++ []
        ∧ 1 + (Form.frame ⟨.none, 2#6⟩ 0#8 0#8 0x1A#8 [0x9B#8]).length ≤ s.cfg.rxbufCap)
      ∧ ((Instr.hrv 0#6).form = some ⟨.reserved, 0#6⟩ ∧ t.micro = .flush 0
        ∧ t.rxbuf[0]? = some (Form.byte ⟨.reserved, 0#6⟩) ∧ parseFrame t.cfg.rxbufCap t.rxbuf 0 = .noData)
      ∧ ({ t with micro := .start } : State).phase = .c ∧ ({ t with micro := .start } : State).p1Flush = true
      ∧ ({ t with micro := .flush 1, expecting := true } : State).rxbuf.length ≤ 1
      ∧ ({ t with micro := .flush 0, rxbuf := [] } : State).rxbuf.length ≤ 0 := by decide

/-- A read that is echo only; data that just does not fit, and a full buffer; data with no echo outstanding; phase B with
an empty line, with bytes, and with a failed read. -/
theorem witness_receivedBytesAreAppended :
    let s := { c0 with phase := .b, lock := .seq }
    let e := { c0 with echoFifo := [0x81#8, 0x10#8] }
    let f := { c0 with cfg := { Config.default with rxbufCap := 260 }, rxbuf := List.replicate 260 0#8 }
    (echoFilter [0x81#8] e).1 = []
      ∧ ((echoFilter [0x81#8, 0x10#8, 0x83#8] e).1 = [0x83#8]
        ∧ (echoFilter [0x81#8, 0x10#8, 0x83#8] e).2.rxbuf.length < e.cfg.rxbufCap)
      ∧ ((echoFilter [0x83#8] f).1 ≠ [] ∧ f.cfg.rxbufCap ≤ (echoFilter [0x83#8] f).2.rxbuf.length)
      ∧ (c0.echoFifo = [] ∧ [0x81#8] ≠ [] ∧ c0.rxbuf.length < c0.cfg.rxbufCap)
      ∧ s.phase = .b ∧ s.micro = .start ∧ s.env.lineRx = []
      ∧ (withLine s [0x81#8] .normal).env.lineRx ≠ [] ∧ (withLine s [0x81#8] .normal).env.readAns ≠ .fail
      ∧ (withLine s [0x81#8] .fail).env.readAns = .fail := by decide +kernel

/-- R84, R255 on a full buffer of 260: the byte is lost and reported, the stopwatches stay. -/
theorem test_full_buffer :
    let f := { c0 with cfg := { Config.default with rxbufCap := 260 }, rxbuf := List.replicate 260 0#8, swP1 := ⟨true, 7⟩ }
    (f.receive [0x83#8]).events = [.bufferOverflow 1] ∧ (f.receive [0x83#8]).swP1 = ⟨true, 7⟩
      ∧ (f.receive [0x83#8]).rxDirty = false := by decide +kernel

/-- No echo outstanding; one of two bytes; a mismatch with nothing, and with something, left to ignore. -/
theorem witness_echoIsRemoved :
    let s := { c0 with echoFifo := [0x81#8, 0x10#8] }
    c0.echoFifo = [] ∧ s.echoFifo = 0x81#8 :: 0x10#8 :: [] ∧ s.echoFifo ≠ [] ∧ 0x00#8 ≠ 0x81#8 ∧ s.ignoreCnt = 0
      ∧ 0 < { s with ignoreCnt := 1 }.ignoreCnt := by decide

/-- The three grounds, one after the other. -/
theorem witness_unacceptableMessage :
    (Instr.testerPresentPos .rx).service = some (0x7E#8, .rx)
      ∧ ({ atDispatch 0x23#8 [] with frame := ⟨.functional, 0#8, 0xF1#8, 0#8, [], 0⟩ } : State).frame.mode = .functional
      ∧ (atDispatch 0x23#8 []).frame.mode = .physical
      ∧ ({ c0 with frame := ⟨.physical, 0#8, 0xF2#8, 0#8, [], 0⟩ } : State).frame.dst ≠ c0.cfg.testerAddr
      ∧ (Instr.testerPresentReq .rx).service = some (0x3E#8, .rx) ∧ (0x3E#8).getLsbD 6 = false := by decide

/-- Nothing outstanding; something else outstanding; the fourth and the fifth in a row. -/
theorem witness_unsolicited :
    (Instr.testerPresentPos .rx).service = some (0x7E#8, .rx)
      ∧ accepted c0.cfg { (atDispatch 0x23#8 []).frame with sid := 0x7E#8 } = true
      ∧ ({ atDispatch 0x23#8 [] with expecting := false } : State).expecting = false
      ∧ (atDispatch 0x23#8 []).txq = [sentEntry 0x23#8] ∧ 0x7E#8 ≠ (sentEntry 0x23#8).msg.sid ||| 0x40#8
      ∧ 0x7E#8 ≠ c0.cfg.sidNegResp
      ∧ ({ c0 with unsolicited := 3 } : State).unsolicited + 1 < 5
      ∧ ¬({ c0 with unsolicited := 4 } : State).unsolicited + 1 < 5 := by decide

theorem witness_positiveResponse :
    (Instr.readMemoryByAddressPos .rx).service = some (0x63#8, .rx)
      ∧ accepted c0.cfg { (atDispatch 0x23#8 [1#8]).frame with sid := 0x63#8 } = true
      ∧ (atDispatch 0x23#8 [1#8]).expecting = true ∧ (atDispatch 0x23#8 [1#8]).txq = [sentEntry 0x23#8]
      ∧ 0x63#8 = (sentEntry 0x23#8).msg.sid ||| 0x40#8
      ∧ (sentEntry 0x23#8).msg.sid ≠ c0.cfg.sidStartComm ∧ (sentEntry 0x23#8).msg.sid ≠ c0.cfg.sidStopComm := by decide

theorem witness_startCommunicationPositive :
    (Instr.startCommunicationPos .rx).service = some (0xC1#8, .rx)
      ∧ accepted c0.cfg { (atDispatch 0x81#8 [0xEF#8, 0x8F#8]).frame with sid := 0xC1#8 } = true
      ∧ (atDispatch 0x81#8 [0xEF#8, 0x8F#8]).expecting = true
      ∧ 0xC1#8 = (sentEntry 0x81#8).msg.sid ||| 0x40#8 ∧ (sentEntry 0x81#8).msg.sid = c0.cfg.sidStartComm := by decide

theorem witness_stopCommunicationPositive :
    (Instr.stopCommunicationPos .rx).service = some (0xC2#8, .rx)
      ∧ accepted c0.cfg { (atDispatch 0x82#8 []).frame with sid := 0xC2#8 } = true
      ∧ (atDispatch 0x82#8 []).expecting = true ∧ 0xC2#8 = (sentEntry 0x82#8).msg.sid ||| 0x40#8
      ∧ (sentEntry 0x82#8).msg.sid ≠ c0.cfg.sidStartComm ∧ (sentEntry 0x82#8).msg.sid = c0.cfg.sidStopComm := by decide

theorem witness_negativeResponse :
    (Instr.negativeResponse .rx).service = some (0x7F#8, .rx)
      ∧ accepted c0.cfg { (atDispatch 0x23#8 [0x23#8, 0x78#8]).frame with sid := 0x7F#8 } = true
      ∧ (atDispatch 0x23#8 [0x23#8, 0x78#8]).expecting = true
      ∧ 0x7F#8 ≠ (sentEntry 0x23#8).msg.sid ||| 0x40#8 ∧ 0x7F#8 = c0.cfg.sidNegResp
      ∧ (atDispatch 0x23#8 [0x23#8, 0x78#8]).frame.data = (sentEntry 0x23#8).msg.sid :: 0x78#8 :: [] := by decide

/-- ResponsePending, Busy and the others. -/
theorem witness_responseCodes :
    Instr.responsePending.responseCode = some 0x78#8 ∧ 0x78#8 = c0.cfg.rcResponsePending
      ∧ Instr.busyRepeatRequest.responseCode = some 0x21#8 ∧ 0x21#8 ≠ c0.cfg.rcResponsePending ∧ 0x21#8 = c0.cfg.rcBusy
      ∧ (Instr.otherCode 0x31#8).responseCode = some 0x31#8 ∧ 0x31#8 ≠ c0.cfg.rcResponsePending ∧ 0x31#8 ≠ c0.cfg.rcBusy
      ∧ (atDispatch 0x23#8 []).txq = [sentEntry 0x23#8] := by decide

/-- With a code the conditions of `witness_responseCodes`; without one a negative response of one data byte (V-M3). -/
theorem witness_otherNegativeResponse :
    ownedSid c0.cfg (sentEntry 0x23#8).msg.sid = false ∧ (Instr.negativeResponse .rx).service = some (0x7F#8, .rx)
      ∧ accepted c0.cfg { (atDispatch 0x23#8 [0x23#8]).frame with sid := 0x7F#8 } = true
      ∧ (atDispatch 0x23#8 [0x23#8]).expecting = true ∧ 0x7F#8 ≠ (sentEntry 0x23#8).msg.sid ||| 0x40#8
      ∧ 0x7F#8 = c0.cfg.sidNegResp ∧ (atDispatch 0x23#8 [0x23#8]).frame.data = [(sentEntry 0x23#8).msg.sid] := by decide

/-- The three owned services, each different from the ones before it; with a code, and with one data byte. -/
theorem witness_ownedServiceRejected :
    let s := atDispatch 0x81#8 [0x81#8]
    (sentEntry 0x81#8).msg.sid = c0.cfg.sidStartComm ∧ (sentEntry 0x3E#8).msg.sid ≠ c0.cfg.sidStartComm
      ∧ (sentEntry 0x3E#8).msg.sid = c0.cfg.sidTesterPresent ∧ (sentEntry 0x82#8).msg.sid ≠ c0.cfg.sidStartComm
      ∧ (sentEntry 0x82#8).msg.sid ≠ c0.cfg.sidTesterPresent ∧ (sentEntry 0x82#8).msg.sid = c0.cfg.sidStopComm
      ∧ (Instr.otherCode 0x10#8).responseCode = some 0x10#8 ∧ 0x10#8 ≠ c0.cfg.rcResponsePending
      ∧ 0x10#8 ≠ c0.cfg.rcBusy ∧ s.txq = [sentEntry 0x81#8]
      ∧ (Instr.negativeResponse .rx).service = some (0x7F#8, .rx)
      ∧ accepted s.cfg { s.frame with sid := 0x7F#8 } = true ∧ s.expecting = true
      ∧ 0x7F#8 ≠ (sentEntry 0x81#8).msg.sid ||| 0x40#8 ∧ 0x7F#8 ≠ (sentEntry 0x3E#8).msg.sid ||| 0x40#8
      ∧ 0x7F#8 ≠ (sentEntry 0x82#8).msg.sid ||| 0x40#8 ∧ 0x7F#8 = s.cfg.sidNegResp ∧ s.frame.data = [0x81#8] := by decide

/-- No bound on the write; a bound that just takes the frame; one that just does not. -/
theorem witness_transmission :
    (Instr.anyRequest 0x01#8 .tx).service = some (0x01#8, .tx) ∧ (Instr.testerPresentReq .tx).service = some (0x3E#8, .tx)
      ∧ (atSend 0x3E#8).txq = [⟨⟨.physical, 0xF1#8, 0x10#8, 0x3E#8, [], 0⟩, 0, false, false⟩]
      ∧ serialize ⟨.physical, 0xF1#8, 0x10#8, 0x3E#8, [], 0⟩ = some [0x81#8, 0x10#8, 0xF1#8, 0x3E#8, 0xC0#8]
      ∧ (atSend 0x3E#8).cfg.txPaceP4 = false ∧ (atSend 0x3E#8).hsStep ≠ .f5 ∧ (atSend 0x3E#8).env.writeCap = none
      ∧ ({ Env.reset with writeCap := some 5 } : Env).writeCap = some 5 ∧ 5 ≤ 5
      ∧ ({ Env.reset with writeCap := some 4 } : Env).writeCap = some 4 ∧ 4 < 5 := by decide

/-- The push with room and without; a write without a bound, with one that just takes the frame, and with one that just
does not; paced, the first byte and the last of five, taken and not. -/
theorem witness_fastInitRequest :
    let s := { atSend 0x81#8 with phase := .a, hsStep := .f5, connState := .connectionPending }
    let b := { s with micro := .start, txq := List.replicate 15 (sentEntry 0x1A#8) }
    let p := { s with cfg := { Config.default with txPaceP4 := true } }
    (b.phase = .a ∧ b.hsStep = .f5 ∧ b.micro = .start ∧ b.txq.length < b.cfg.txqCap
        ∧ ({ b with txq := List.replicate 16 (sentEntry 0x1A#8) } : State).cfg.txqCap ≤ 16)
      ∧ (Instr.startCommunicationReq .tx).service = some (0x81#8, .tx) ∧ s.hsStep = .f5 ∧ s.cfg.txPaceP4 = false
      ∧ s.txq = [⟨⟨.physical, 0xF1#8, 0x10#8, 0x81#8, [], 0⟩, 0, false, false⟩]
      ∧ serialize ⟨.physical, 0xF1#8, 0x10#8, 0x81#8, [], 0⟩ = some [0x81#8, 0x10#8, 0xF1#8, 0x81#8, 0x03#8]
      ∧ s.env.writeCap = none ∧ (withCap s 5).env.writeCap = some 5 ∧ 5 ≤ 5 ∧ (withCap s 4).env.writeCap = some 4
      ∧ p.cfg.txPaceP4 = true ∧ p.micro = .send ∧ p.env.writeCap ≠ some 0 ∧ 0 + 1 < 5
      ∧ ({ p with micro := .pace 4 0 } : State).micro = .pace 4 0 ∧ 4 + 1 = 5
      ∧ (withCap p 0).env.writeCap = some 0 ∧ (withCap p 1).env.writeCap ≠ some 0 := by decide

/-- The first byte, one between, and the last of five, taken and not. -/
theorem witness_pacedFrame :
    let s := { atSend 0x3E#8 with cfg := { Config.default with txPaceP4 := true } }
    s.cfg.txPaceP4 = true ∧ s.hsStep ≠ .f5 ∧ s.env.writeCap ≠ some 0 ∧ s.micro = .send ∧ 0 + 1 < 5
      ∧ ({ s with micro := .pace 4 0 } : State).micro = .pace 4 0 ∧ 4 + 1 = 5
      ∧ (withCap s 0).env.writeCap = some 0 ∧ (withCap s 1).env.writeCap ≠ some 0 := by decide

/-- A run begins; none, in Connected, and for want of an attempt; the state test; the sleep's end; step S0 at its start,
chained and not, and at its end. -/
theorem witness_handshakeRunBegins :
    let s := { State.reset with attemptsLeft := 1 }
    let z := { State.reset with phase := .sleep, micro := .wait 0 }
    (s.phase = .a ∧ s.hsStep = .idle ∧ s.micro = .start ∧ s.connState = .disconnected ∧ s.attemptsLeft = 0 + 1)
      ∧ (c0.phase = .a ∧ c0.hsStep = .idle ∧ c0.micro = .start ∧ c0.connState ≠ .disconnected)
      ∧ State.reset.attemptsLeft = 0
      ∧ (({ c0 with micro := .test } : State).phase = .a ∧ ({ c0 with micro := .test } : State).hsStep = .idle)
      ∧ z.phase = .sleep ∧ z.micro = .wait 0
      ∧ (atHs .s0 .start).phase = .a ∧ (atHs .s0 .start).hsChained = false
      ∧ ({ atHs .s0 .start with hsChained := true } : State).hsChained = true
      ∧ (atHs .s0 (.wait 0)).hsStep = .s0 ∧ (atHs .s0 (.wait 0)).micro = .wait 0 := by decide

/-- The first slot, the last level, the end, and step S2. -/
theorem witness_addressCharacter :
    (atHs .s1 .start).phase = .a ∧ (atHs .s1 .start).hsStep = .s1 ∧ (atHs .s1 .start).micro = .start
      ∧ (atHs .s1 (.slot 9 0)).micro = .slot 9 0 ∧ 9 < 10
      ∧ (atHs .s1 (.slot 10 0)).micro = .slot 10 0 ∧ 10 ≤ 10
      ∧ (atHs .s2 .start).phase = .a ∧ (atHs .s2 .start).hsStep = .s2 ∧ (atHs .s2 .start).micro = .start := by decide

/-- The sync byte; another byte, and none, in either read; a failed read. -/
theorem witness_syncByte :
    let s := atHs .s3 (.read 1 0)
    let r := atHs .s3 (.reread 1 0)
    (atHs .s3 .start).phase = .a ∧ s.phase = .a ∧ s.hsStep = .s3 ∧ s.env.readAns ≠ .fail
      ∧ r.hsStep = .s3 ∧ r.micro = .reread 1 0
      ∧ (withLine s [0x55#8] .normal).env.lineRx = 0x55#8 :: []
      ∧ (withLine s [0xE0#8] .normal).env.lineRx.head? ≠ some 0x55#8 ∧ s.env.lineRx.head? ≠ some 0x55#8
      ∧ (withLine r [0xE0#8] .normal).env.lineRx.head? ≠ some 0x55#8
      ∧ (withLine r [0x55#8] .fail).env.readAns = .fail := by decide

/-- What S6 meets; a write taken, and one not, with the echo verified, and not; the echo, another byte, none, a failed
read. -/
theorem witness_complement :
    let s := atHs .s6 (.wait 0)
    let r := atHs .s6 (.read 1 0)
    s.phase = .a ∧ s.hsStep = .s6 ∧ (atHs .s6 .start).micro = .start ∧ s.hsKb[1]? = some 0x8F#8
      ∧ s.env.writeCap ≠ some 0 ∧ s.cfg.verifyComplementEcho = true
      ∧ ({ s.cfg with verifyComplementEcho := false }).verifyComplementEcho = false
      ∧ (withCap s 0).env.writeCap = some 0
      ∧ r.phase = .a ∧ r.hsStep = .s6 ∧ r.micro = .read 1 0 ∧ r.hsKb[1]? = some 0x8F#8
      ∧ (withLine r [0x70#8] .early).env.lineRx = (0xFF#8 - 0x8F#8) :: []
      ∧ (withLine r [0x71#8] .normal).env.lineRx.head? ≠ some (0xFF#8 - 0x8F#8)
      ∧ r.env.lineRx.head? ≠ some (0xFF#8 - 0x8F#8) ∧ (withLine r [] .fail).env.readAns = .fail := by decide

/-- The right complement and another byte; none; a failed read. -/
theorem witness_addressComplement :
    let r := atHs .s7 (.read 1 0)
    let s := withLine r [0xFE#8] .normal
    (atHs .s7 .start).phase = .a ∧ (atHs .s7 .start).hsStep = .s7 ∧ r.micro = .read 1 0
      ∧ s.env.readAns ≠ .fail ∧ s.env.lineRx = 0xFE#8 :: [] ∧ 0xFE#8 = 0xFF#8 - s.hsAddr ∧ 0xEE#8 ≠ 0xFF#8 - s.hsAddr
      ∧ r.env.lineRx = [] ∧ r.env.readAns ≠ .fail ∧ (withLine r [] .fail).env.readAns = .fail := by decide

/-- Both verdicts of each key byte: 95_test_vectors.md 2.3 has EF valid, FF with both timing bits and C1 with no header
bit invalid, and with the parity check 6F even and so invalid; 8F has bit 6 clear. -/
theorem witness_keyBytes :
    ends (exec (.kb1 true true true true true 0b11#2) (atHs .s5 .key1)) (fun t => t.connState == .disconnected)
      ∧ ends (exec (.kb1 true false false false false 0b01#2) (atHs .s5 .key1)) (fun t => t.connState == .disconnected)
      ∧ ends (exec (.kb2 true 0x0F#7) (atHs .s5 .key2)) (fun t => t.hsStep == .s6 && t.hsKind == .kwp2000)
      ∧ ends (exec (.kb2 false 0x6F#7) { atHs .s5 .key2 with cfg := { Config.default with checkKbParity := true } })
          (fun t => t.connState == .disconnected)
      ∧ (0x8F#8).getLsbD 6 = false ∧ (0xEF#8).getLsbD 6 = true
      ∧ (atHs .s5 .key1).phase = .a ∧ (atHs .s5 .key1).hsKb = [0xEF#8, 0x8F#8]
      ∧ (atHs .s5 .key2).micro = .key2 ∧ (atHs .s5 .start).micro = .start := by decide

/-- Step S4: the first byte, the second, none; the last chance with enough, with one byte too few; a failed read of
either kind. The legacy pair of R222. -/
theorem witness_keyByteReads :
    let r := { atHs .s4 (.read 1 0) with hsKb := [] }
    let l := { atHs .s4 (.reread 2 0) with hsKb := [] }
    (r.phase = .a ∧ r.hsStep = .s4 ∧ (atHs .s4 .start).micro = .start ∧ r.micro = .read 1 0 ∧ r.env.readAns ≠ .fail)
      ∧ (withLine r [0xEF#8] .normal).env.lineRx = 0xEF#8 :: [] ∧ (withLine r [0xEF#8] .normal).hsKb = []
      ∧ ({ r with hsKb := [0xEF#8] } : State).hsKb = [0xEF#8] ∧ r.env.lineRx = []
      ∧ l.micro = .reread 2 0 ∧ 2 ≤ (l.hsKb ++ (withLine l [0xEF#8, 0x8F#8] .normal).env.lineRx.take 2).length
      ∧ (l.hsKb ++ (withLine l [0xEF#8] .early).env.lineRx.take 2).length < 2
      ∧ (withLine r [] .fail).env.readAns = .fail ∧ (withLine l [] .fail).env.readAns = .fail
      ∧ (0x01#8, 0x8A#8) = State.reset.cfg.legacyKb ∧ (0xEF#8, 0x8F#8) ≠ State.reset.cfg.legacyKb := by decide

/-- Step S8; step S_LEGACY with a second address, without one, and chained already. -/
theorem witness_slowInitSucceeds :
    let s := atHs .s8 .start
    let l := { atHs .sLegacy .start with hsKind := .legacy, secondAddr := some 0x11#8 }
    s.phase = .a ∧ s.hsStep = .s8 ∧ s.micro = .start ∧ s.hsKb = [0xEF#8, 0x8F#8]
      ∧ l.phase = .a ∧ l.hsStep = .sLegacy ∧ l.micro = .start ∧ l.secondAddr = some 0x11#8 ∧ l.hsChained = false
      ∧ (atHs .sLegacy .start).secondAddr = none ∧ ({ l with hsChained := true } : State).hsChained = true := by decide

/-- Each step at its beginning and, F1 to F3, in its wait. -/
theorem witness_fastWakeup :
    ((atHs .f0 .start).phase = .a ∧ (atHs .f0 .start).hsStep = .f0 ∧ (atHs .f0 .start).micro = .start)
      ∧ ((atHs .f1 .start).hsStep = .f1 ∧ (atHs .f1 .start).micro = .start)
      ∧ ((atHs .f1 (.wait 0)).hsStep = .f1 ∧ (atHs .f1 (.wait 0)).micro = .wait 0)
      ∧ ((atHs .f2 .start).hsStep = .f2 ∧ (atHs .f2 .start).micro = .start)
      ∧ ((atHs .f2 (.wait 0)).hsStep = .f2 ∧ (atHs .f2 (.wait 0)).micro = .wait 0)
      ∧ ((atHs .f3 .start).hsStep = .f3 ∧ (atHs .f3 .start).micro = .start)
      ∧ ((atHs .f3 (.wait 0)).hsStep = .f3 ∧ (atHs .f3 (.wait 0)).micro = .wait 0)
      ∧ ((atHs .f4 .start).phase = .a ∧ (atHs .f4 .start).hsStep = .f4 ∧ (atHs .f4 .start).micro = .start) := by decide

theorem witness_failedRun : (atHs .s5 .key1).connState = .connectionPending := by decide

/-- One state of each name for the clauses by `CONN_STATE` of the command statements. -/
theorem witness_connStates :
    State.reset.connState = .disconnected ∧ (atHs .s0 .start).connState = .connectionPending
      ∧ c0.connState = .connected ∧ ({ c0 with connState := .disconnectionPending } : State).connState = .disconnectionPending
      ∧ ({ State.reset with connState := .communicationTerminated } : State).connState = .communicationTerminated := by
  decide

/-- The largest legal field, and one more. -/
theorem witness_timingCommands :
    (⟨2 ^ 30, 0, 0, 0, 0, 0⟩ : TimingSet).legal = true ∧ (⟨2 ^ 30 + 1, 0, 0, 0, 0, 0⟩ : TimingSet).legal = false
      ∧ c0.connState ≠ .communicationTerminated := by decide

/-- No expiry, on each ground, the last at the limit; past it with nothing expected; with a response; without one while
the connection is pending; and in the two live states, the second and the third time. -/
theorem witness_p2Expiry :
    let s := { atCheck .checkP2 with swP2 := ⟨true, 100000⟩, expecting := true, txq := [sentEntry 0x23#8] }
    let t := { s with swP2 := ⟨true, 100001⟩ }
    s.phase = .d ∧ s.micro = .checkP2 ∧ s.swP1.running = false ∧ s.swP2.running = true ∧ s.connState = .connected
      ∧ ({ s with swP1 := ⟨true, 0⟩ } : State).swP1.running = true ∧ (atCheck .checkP2).swP2.running = false
      ∧ s.swP2.elapsed ≤ 2 * (1000 * s.p2maxEff) ∧ 2 * (1000 * t.p2maxEff) < t.swP2.elapsed
      ∧ ({ t with expecting := false } : State).expecting = false ∧ t.txq = sentEntry 0x23#8 :: []
      ∧ ({ t with respCount := 1 } : State).respCount ≠ 0 ∧ t.respCount = 0
      ∧ ({ t with connState := .connectionPending } : State).connState = .connectionPending
      ∧ ({ t with connState := .disconnectionPending } : State).connState ≠ .connectionPending
      ∧ ({ t with connState := .disconnectionPending } : State).connState ≠ .disconnected
      ∧ ¬(3 ≤ ({ t with unanswered := 1 } : State).unanswered + 1) ∧ 3 ≤ ({ t with unanswered := 2 } : State).unanswered + 1
      := by decide

/-- Each check; the probe reads with a byte, with none in time and early, and failed. -/
theorem witness_otherExpiryChecks :
    let p := atCheck (.probe1 0)
    let q := atCheck (.probe3 0)
    (atCheck .start).phase = .d ∧ (atCheck .start).micro = .start ∧ p.phase = .d ∧ p.micro = .probe1 0
      ∧ (withLine p [0x83#8] .normal).env.lineRx = 0x83#8 :: [] ∧ p.env.readAns ≠ .fail ∧ p.env.lineRx = []
      ∧ (withLine p [] .early).env.readAns ≠ .fail ∧ (withLine p [0x83#8] .fail).env.readAns = .fail
      ∧ (atCheck .checkP3).micro = .checkP3 ∧ q.micro = .probe3 0 ∧ q.connState ≠ .disconnected
      ∧ (atCheck .checkDisc).micro = .checkDisc := by decide

/-- The gate closed by the connection state, and 1 microsecond early; open, in both live states, with budget left, spent,
spent by the StopCommunication of a pending disconnect, and with an empty queue. -/
theorem witness_transmitGate :
    let s := { c0 with phase := .e, lock := .seq, swP3 := ⟨true, 55000⟩, txq := [sentEntry 0x23#8] }
    let d := { s with connState := .disconnectionPending, txq := [{ sentEntry 0x82#8 with internal := true }] }
    s.phase = .e ∧ s.micro = .start ∧ s.connState = .connected
      ∧ ({ s with connState := .connectionPending } : State).connState ≠ .connected
      ∧ ({ s with connState := .connectionPending } : State).connState ≠ .disconnectionPending
      ∧ ({ s with swP3 := ⟨true, 54999⟩ } : State).swP3.elapsed < 1000 * s.tpCurrent.p3min
      ∧ s.echoFifo = [] ∧ s.expecting = false ∧ s.swP3.running = true ∧ 1000 * s.tpCurrent.p3min ≤ s.swP3.elapsed
      ∧ s.txq = [sentEntry 0x23#8] ∧ (sentEntry 0x23#8).msg.maxRetries < (sentEntry 0x23#8).attempts
      ∧ { sentEntry 0x23#8 with attempts := 0 }.attempts ≤ (sentEntry 0x23#8).msg.maxRetries
      ∧ d.txq = [{ sentEntry 0x82#8 with internal := true }] ∧ (sentEntry 0x82#8).msg.sid = d.cfg.sidStopComm
      ∧ d.connState = .disconnectionPending ∧ ({ d with txq := [] } : State).txq = []
      ∧ ({ s with txq := [] } : State).txq = [] ∧ 0 < s.cfg.txqCap
      ∧ s.cfg.keepaliveEn = true ∧ 1000 * s.tpCurrent.p3max < 2 * 2500001 := by decide

/-- Any state but Disconnected, and Disconnected. -/
theorem witness_disconnectEntry : c0.connState ≠ .disconnected ∧ State.reset.connState = .disconnected := by decide

theorem witness_resetSatisfiesInv : Config.default.ok = true := by decide

/-- The invariant of a state of this file: its decidable parts are computed, the three others given. -/
theorem inv_c0 : c0.Inv where
  cfg := by decide
  rxbufCap := by decide
  txqCap := by decide
  echoCap := by decide
  ignoreCap := by decide
  tpDefault := by decide
  tpCurrent := by decide
  tpLimits := by decide
  p2maxEff := by decide
  expecting := by intro h; exact absurd h (by decide)
  disconnected := by intro h; exact absurd h (by decide)
  breakOut := by decide
  swP1 := by decide
  keyBit7 := by decide
  unsolicited := by decide
  unanswered := by decide
  attempts := by decide
  queue := by decide
  placed := by decide
  lock := by decide
  run := by intro h; exact absurd rfl h
  deep := by decide
  sending := by decide
  code := by decide
  terminated := by decide

/-- C0 with an echo outstanding and a move of the schedule. -/
def c0Echo (m : Move) : State := { c0 with echoFifo := [0xC0#8], env := { Env.reset with sched := [m] } }

theorem inv_c0Echo (m : Move) : (c0Echo m).Inv :=
  { inv_c0 with
    echoCap := by simp [c0Echo]
    expecting := by intro h; exact absurd h (by simp [c0Echo, c0, State.reset, State.resetWith])
    disconnected := by intro h; exact absurd h (by simp [c0Echo, c0, State.reset, State.resetWith])
    run := by intro h; exact absurd rfl h
    sending := by intro h; exact absurd h (by simp [c0Echo, c0, State.reset, State.resetWith, Micro.sending]) }

/-- Reset with a connection asked for. -/
def asked : State := { State.reset with attemptsLeft := 1 }

theorem inv_asked : asked.Inv where
  cfg := by decide
  rxbufCap := by decide
  txqCap := by decide
  echoCap := by decide
  ignoreCap := by decide
  tpDefault := by decide
  tpCurrent := by decide
  tpLimits := by decide
  p2maxEff := by decide
  expecting := by intro h; exact absurd h (by decide)
  disconnected := by intro _; simp [State.Quiet, asked, State.reset, State.resetWith]
  breakOut := by decide
  swP1 := by decide
  keyBit7 := by decide
  unsolicited := by decide
  unanswered := by decide
  attempts := by decide
  queue := by decide
  placed := by decide
  lock := by decide
  run := by intro h; exact absurd rfl h
  deep := by decide
  sending := by decide
  code := by decide
  terminated := by decide

theorem witness_stepKeepsInv : c0.Inv ∧ ends (step c0) (fun t => t.lock == .seq) = true := ⟨inv_c0, by decide⟩

/-- A step that runs an item: with an empty schedule, on a move of the schedule, at the host port (not locked; locked with
the lock free), and placed. -/
theorem witness_stepRunsTheDecodedItem :
    let s := atSend 0x3E#8
    s.enabled = true ∧ s.fetch = some (.service .tx, [0x3E#8])
      ∧ dec (.service .tx) [0x3E#8] = some (.testerPresentReq .tx) ∧ s.env.sched = []
      ∧ (s.pushMove .seq).popMove.enabled = true ∧ (s.pushMove .seq).popMove.fetch = some (.service .tx, [0x3E#8])
      ∧ (s.pushMove .seq).env.sched = [.seq]
      ∧ (s.pushMove (.host 0x08#8 [0#8])).env.sched = [.host 0x08#8 [0#8]]
      ∧ dec .command [0x08#8, 0#8] = some (.readStatus .connState) ∧ locked (.readStatus .connState) = false
      ∧ locked .terminate = true ∧ c0.lock = .none ∧ (Instr.h1i 1#6).wf = true := by decide

/-- Operand bytes that cannot be read: a mode that is none (log 10). -/
theorem witness_unreadableOperands :
    dec .command [0x01#8, 2#8] = none
      ∧ ends (step ((atSend 0x3E#8).pushMove (.host 0x01#8 [2#8]))) (fun t =>
          t.env.replies == [.refused .badOperand] && t.env.sched == []) := by decide

/-- The places of phases C and E, and an item placed in phase A (step F5). -/
theorem witness_stepFetches :
    let a := atScan [0x81#8]
    let f := { a with micro := .flush 0 }
    let c := { atDispatch 0x23#8 [0x23#8, 0x78#8] with micro := .code }
    let t := { atSend 0x81#8 with phase := .a, hsStep := .f5 }
    (a.phase = .c ∧ a.micro = .start ∧ a.p1Flush = false ∧ a.rxDirty = true ∧ a.rxbuf = 0x81#8 :: [])
      ∧ (f.micro = .flush 0 ∧ f.rxbuf[0]? = some 0x81#8)
      ∧ ((atDispatch 0x23#8 []).phase = .c ∧ (atDispatch 0x23#8 []).micro = .dispatch)
      ∧ (c.phase = .c ∧ c.micro = .code ∧ c.frame.data[1]? = some 0x78#8)
      ∧ (t.phase = .a ∧ t.micro = .send ∧ (atSend 0x81#8).phase = .e
        ∧ t.txq = [⟨⟨.physical, 0xF1#8, 0x10#8, 0x81#8, [], 0⟩, 0, false, false⟩]) := by decide

/-- One microsecond before the awaited instant the sequencer waits, in each of the seven kinds of wait; in the reads with
one byte too few. -/
theorem witness_waits :
    (atHs .s0 (.wait 1)).waitsUntil 1 ∧ (atHs .s1 (.slot 1 1)).waitsUntil 1
      ∧ ({ atSend 0x3E#8 with micro := .pace 1 1 } : State).waitsUntil 1
      ∧ (atHs .s3 (.read 1 1)).waitsUntil 1 ∧ (withLine (atHs .s4 (.reread 2 1)) [0xEF#8] .normal).waitsUntil 1
      ∧ (atCheck (.probe1 1)).waitsUntil 1 ∧ (atCheck (.probe3 1)).waitsUntil 1 :=
  ⟨⟨by decide, .inl rfl⟩, ⟨by decide, .inr (.inl ⟨1, rfl⟩)⟩, ⟨by decide, .inr (.inr (.inl ⟨1, rfl⟩))⟩,
    ⟨by decide, .inr (.inr (.inr ⟨rfl, .inl ⟨1, by decide, .inl rfl⟩⟩))⟩,
    ⟨by decide, .inr (.inr (.inr ⟨rfl, .inl ⟨2, by decide, .inr rfl⟩⟩))⟩,
    ⟨by decide, .inr (.inr (.inr ⟨rfl, .inr ⟨rfl, .inl rfl⟩⟩))⟩,
    ⟨by decide, .inr (.inr (.inr ⟨rfl, .inr ⟨rfl, .inr rfl⟩⟩))⟩⟩

/-- Both schedules of the waits; the lock held by the host before phase A; and a wait that is over at its instant. -/
theorem witness_waitSchedules :
    let b := { State.reset with lock := .host }
    (atHs .s0 (.wait 1)).env.sched = [] ∧ ((atHs .s0 (.wait 1)).pushMove .seq).env.sched = [.seq]
      ∧ (b.phase = .a ∧ b.hsStep = .idle ∧ b.micro = .start ∧ b.lock ≠ .none ∧ b.env.sched = []
        ∧ (b.pushMove .seq).env.sched = [.seq])
      ∧ (∀ t, ¬(atHs .s0 (.wait 0)).waitsUntil t) ∧ (atHs .s0 (.wait 0)).hsStep ≠ .idle :=
  ⟨by decide, by decide, by decide, by
    rintro t ⟨h0, h | ⟨_, h⟩ | ⟨_, h⟩ | ⟨_, ⟨_, _, h | h⟩ | ⟨_, h | h⟩⟩⟩ <;> cases h
    exact absurd h0 (by decide),
    by decide⟩

/-- R10: one microsecond before the awaited instant a step only lets the time go on, and a move of the schedule is only
used up; at the instant the sequencer moves. -/
theorem test_wait_is_binding :
    ends (step (atHs .s0 (.wait 1))) (fun t => t.env.now == 1 && t.hsStep == .s0)
      ∧ ends (step ((atHs .s0 (.wait 1)).pushMove .seq)) (fun t => t.env.now == 0 && t.hsStep == .s0)
      ∧ ends (step (atHs .s0 (.wait 0))) (fun t => t.hsStep == .s1) := by decide

/-- The sequencer ready, and in a wait. -/
theorem witness_lockedCommandWaits :
    let s := (atSend 0x3E#8).pushMove (.host 0x03#8 [])
    s.env.sched = [.host 0x03#8 []] ∧ dec .command [0x03#8] = some .terminate ∧ locked .terminate = true
      ∧ s.lock ≠ .none ∧ s.enabled = true ∧ ends (step s) (fun t => t.env.sched == s.env.sched) = true := by decide

theorem witness_lockedCommandWaits_wait :
    let s := (atHs .s0 (.wait 1)).pushMove (.host 0x03#8 [])
    s.lock ≠ .none ∧ s.waitsUntil 1 ∧ ends (step s) (fun t => t.env.now == 1 && t.env.sched == s.env.sched) = true :=
  ⟨by decide, ⟨by decide, .inl rfl⟩, by decide⟩

theorem witness_historiesOnlyGrow : ends (step asked) (fun t => t.events.length == 1) = true := by decide

/-- A change of `CONN_STATE` of either kind: to CommunicationTerminated, and another. -/
theorem witness_connStateTransitions :
    (c0Echo (.host 0x03#8 [])).Inv ∧ ends (step (c0Echo (.host 0x03#8 []))) (fun t =>
        t.connState == .communicationTerminated)
      ∧ asked.Inv ∧ ends (step asked) (fun t => t.connState == .connectionPending) :=
  ⟨inv_c0Echo _, by decide, inv_asked, by decide⟩

theorem witness_noWriteWhileEchoOutstanding :
    (c0Echo .seq).Inv ∧ (c0Echo .seq).echoFifo ≠ [] ∧ ends (step (c0Echo .seq)) (fun t => t.echoFifo == [0xC0#8]) :=
  ⟨inv_c0Echo _, by decide, by decide⟩

theorem witness_idleUntilConnect :
    State.reset.Inv ∧ State.reset.connState = .disconnected ∧ State.reset.attemptsLeft = 0
      ∧ ends (step State.reset) (fun t => t.micro == .test) :=
  ⟨{ inv_asked with
      expecting := by intro h; exact absurd h (by decide)
      disconnected := inv_asked.disconnected
      run := by intro h; exact absurd rfl h
      attempts := by intro _; rfl }, by decide, by decide, by decide⟩

end Sys2Proof.Tests
end

namespace Sys2Proof.Machine

/-! The checksum of the frame codec (R151): one equation per constructor, read as arithmetic on unsigned bytes. -/

@[simp] theorem checksum_nil : checksum [] = 0#8 := rfl

@[simp] theorem checksum_cons (b : Byte) (bs : List Byte) : checksum (b :: bs) = b + checksum bs := rfl

/-- Taking the low byte after each addition loses nothing against taking it once, of the exact sum. -/
theorem toNat_checksum (bs : List Byte) : (checksum bs).toNat = (bs.map BitVec.toNat).sum % 256 := by
  induction bs with
  | nil => rfl
  | cons b bs ih =>
    calc (checksum (b :: bs)).toNat
        = (b.toNat + (checksum bs).toNat) % 256 := by rw [checksum_cons, BitVec.toNat_add]
      _ = (b.toNat + (bs.map BitVec.toNat).sum % 256) % 256 := by rw [ih]
      _ = (b.toNat + (bs.map BitVec.toNat).sum) % 256 := Nat.add_mod_mod ..
      _ = ((b :: bs).map BitVec.toNat).sum % 256 := by rw [List.map_cons, List.sum_cons]

/-- Settles O3, by induction on the list of bytes (`toNat_checksum`). -/
theorem checksumIsSumModulo256 : Obligations.ChecksumIsSumModulo256 := toNat_checksum

end Sys2Proof.Machine

namespace Sys2Proof

/-! The checks on a timing set, as propositions: R52 (ii), R27. -/

theorem TimingSet.enforced_iff (t : TimingSet) :
    t.enforced = true ↔ t.p2min + 13 ≤ t.p2max ∧ t.p3min + 13 ≤ t.p3max ∧ t.p4min ≤ t.p3min := by
  simp only [enforced, Bool.and_eq_true, decide_eq_true_iff, and_assoc]
  rfl

theorem TimingSet.legal_iff (t : TimingSet) :
    t.legal = true ↔ t.p1max ≤ 2 ^ 30 ∧ t.p2min ≤ 2 ^ 30 ∧ t.p2max ≤ 2 ^ 30
      ∧ t.p3min ≤ 2 ^ 30 ∧ t.p3max ≤ 2 ^ 30 ∧ t.p4min ≤ 2 ^ 30 := by
  simp [legal, and_assoc]

theorem TimingSet.fits_iff (t : TimingSet) :
    t.fits = true ↔ t.p1max < 2 ^ 32 ∧ t.p2min < 2 ^ 32 ∧ t.p2max < 2 ^ 32
      ∧ t.p3min < 2 ^ 32 ∧ t.p3max < 2 ^ 32 ∧ t.p4min < 2 ^ 32 := by
  simp [fits, and_assoc]

namespace Machine

/-! `ENFORCE` (R186): one equation per field; it establishes R52 (ii) and changes nothing where R52 (ii) holds. -/

@[simp] theorem enforce_p1max (t : TimingSet) : (enforce t).p1max = t.p1max := rfl

@[simp] theorem enforce_p2min (t : TimingSet) : (enforce t).p2min = t.p2min := rfl

@[simp] theorem enforce_p2max (t : TimingSet) : (enforce t).p2max = max t.p2max (t.p2min + 13) := rfl

@[simp] theorem enforce_p3min (t : TimingSet) : (enforce t).p3min = max t.p3min t.p4min := rfl

@[simp] theorem enforce_p3max (t : TimingSet) :
    (enforce t).p3max = max t.p3max (max t.p3min t.p4min + 13) := rfl

@[simp] theorem enforce_p4min (t : TimingSet) : (enforce t).p4min = t.p4min := rfl

/-- The postcondition of R186: each raised field is a maximum with its own lower bound. -/
theorem enforced_enforce (t : TimingSet) : (enforce t).enforced = true :=
  (enforce t).enforced_iff.mpr ⟨Nat.le_max_right .., Nat.le_max_right .., Nat.le_max_right ..⟩

/-- R186's corner case: a set that already satisfies the three inequalities is returned unchanged. -/
theorem enforce_of_enforced {t : TimingSet} (h : t.enforced = true) : enforce t = t := by
  obtain ⟨hp2, hp3, hp4⟩ := t.enforced_iff.mp h
  simp [enforce, hp2, hp3, hp4]

theorem enforce_enforce (t : TimingSet) : enforce (enforce t) = enforce t :=
  enforce_of_enforced (enforced_enforce t)

/-- A raised field is at most `MARGIN` above a legal one, so nothing overflows 32 bits. -/
theorem fits_enforce {t : TimingSet} (h : t.legal = true) : (enforce t).fits = true := by
  obtain ⟨hp1max, hp2min, hp2max, hp3min, hp3max, hp4min⟩ := t.legal_iff.mp h
  have hp3 : max t.p3min t.p4min ≤ 2 ^ 30 := Nat.max_le.mpr ⟨hp3min, hp4min⟩
  simp only [TimingSet.fits_iff, enforce_p1max, enforce_p2min, enforce_p2max, enforce_p3min, enforce_p3max,
    enforce_p4min]
  omega

/-- Settles O9: the field equations, then `enforced_enforce`, `enforce_enforce` and `fits_enforce`. -/
theorem enforcePostcondition : Obligations.EnforcePostcondition := by
  intro t
  obtain ⟨hp2, hp3, hp4⟩ := (enforce t).enforced_iff.mp (enforced_enforce t)
  exact ⟨enforce_p1max t, enforce_p2min t, enforce_p4min t, enforce_p2max t, enforce_p3min t, enforce_p3max t,
    hp2, hp3, hp4, enforce_enforce t, fits_enforce⟩

end Machine

end Sys2Proof

namespace Sys2Proof.Machine

/-! ### The frame codec: forms (R111, R113, R115) -/

@[simp] theorem AddrCode.ofBits_bits (c : AddrCode) : AddrCode.ofBits c.bits = c := by cases c <;> decide

theorem AddrCode.bits_ofBits (b : BitVec 2) : (AddrCode.ofBits b).bits = b := by revert b; decide

@[simp] theorem AddrCode.mode_ofMode (m : AddrMode) : (AddrCode.ofMode m).mode = m := by cases m <;> rfl

theorem AddrCode.ofMode_ne_reserved (m : AddrMode) : AddrCode.ofMode m ≠ .reserved := by cases m <;> decide

theorem AddrCode.addrs_ofMode (m : AddrMode) : (AddrCode.ofMode m).addrs = if m = .none then 0 else 1 := by
  cases m <;> rfl

/-- A code without addresses or with two of them. -/
theorem AddrCode.addrs_eq (c : AddrCode) : c.addrs = 0 ∨ c.addrs = 1 := by cases c <;> decide

/-- The form is read back from its format byte. -/
@[simp] theorem Form.ofByte_byte (f : Form) : Form.ofByte f.byte = f := by
  have hcode : BitVec.extractLsb' 6 2 f.byte = f.code.bits := BitVec.extractLsb'_append_eq_left
  have hil : BitVec.extractLsb' 0 6 f.byte = f.il := BitVec.extractLsb'_append_eq_right
  simp [Form.ofByte, hcode, hil]

@[simp] theorem Form.byte_ofByte (b : Byte) : (Form.ofByte b).byte = b := by
  have hsplit : b.extractLsb' 6 2 ++ b.extractLsb' 0 6 = b.extractLsb' 0 (2 + 6) :=
    BitVec.extractLsb'_append_extractLsb'_eq_extractLsb' rfl
  have hbits : (AddrCode.ofBits (b.extractLsb' 6 2)).bits = b.extractLsb' 6 2 := AddrCode.bits_ofBits _
  calc (Form.ofByte b).byte = b.extractLsb' 6 2 ++ b.extractLsb' 0 6 := by
        simp only [Form.ofByte, Form.byte, hbits]
    _ = b := by rw [hsplit]; exact BitVec.extractLsb'_eq_self

/-! ### The checksum over lists of bytes -/

/-- Replacing one byte changes the checksum by the difference of the bytes (R151). -/
theorem checksum_set (l : List Byte) (k : Nat) (hk : k < l.length) (b : Byte) :
    checksum (l.set k b) + l[k] = checksum l + b := by
  induction l generalizing k with
  | nil => simp at hk
  | cons x xs ih =>
    cases k with
    | zero => simp only [List.set_cons_zero, checksum_cons, List.getElem_cons_zero]; ac_rfl
    | succ k =>
      have hk' : k < xs.length := by simpa using hk
      simp only [List.set_cons_succ, checksum_cons, List.getElem_cons_succ, BitVec.add_assoc, ih k hk']

theorem checksum_set_ne (l : List Byte) (k : Nat) (hk : k < l.length) (b : Byte) (hb : l[k] ≠ b) :
    checksum (l.set k b) ≠ checksum l := by
  intro h
  have hsum := checksum_set l k hk b
  rw [h] at hsum
  exact hb ((BitVec.add_right_inj _).mp hsum)

/-! ### The layout of a frame (R110) -/

/-- What `determine_requirements` finds at the front of a frame of the form `f` with `n` data bytes (R153). -/
def Form.requirements (f : Form) (n : Nat) : Requirements :=
  ⟨1 + 2 * f.code.addrs, f.code, 1 + n, 1, decide (f.il = 0#6)⟩

/-- The number of bytes before the service id: format byte, addresses, length byte (R110). -/
def Form.sidAt (f : Form) : Nat := 1 + 2 * f.code.addrs + (if f.il = 0#6 then 1 else 0)

@[simp] theorem Form.requirements_sidAt (f : Form) (n : Nat) : (f.requirements n).sidAt = f.sidAt := by
  simp [Form.requirements, Requirements.sidAt, Form.sidAt]

theorem Form.requirements_total (f : Form) (n : Nat) : (f.requirements n).total = f.sidAt + 1 + n + 1 := by
  simp [Form.requirements, Requirements.total, Form.sidAt]; omega

theorem Form.sidAt_le (f : Form) : f.sidAt ≤ 4 := by
  have := f.code.addrs_eq
  unfold Form.sidAt; split <;> omega

theorem Form.sidAt_pos (f : Form) : 1 ≤ f.sidAt := by unfold Form.sidAt; omega

section
variable (f : Form) (dst src sid : Byte) (data : List Byte)

theorem Form.body_length : (f.body dst src sid data).length = f.sidAt + 1 + data.length := by
  rcases f.code.addrs_eq with ha | ha <;> by_cases hl : f.il = 0#6 <;>
    simp [Form.body, Form.sidAt, ha, hl] <;> omega

theorem Form.frame_length : (f.frame dst src sid data).length = f.sidAt + 1 + data.length + 1 := by
  simp [Form.frame, f.body_length]

/-- The length byte stands behind the addresses (R110). -/
theorem Form.body_lengthByte (h : f.il = 0#6) :
    (f.body dst src sid data)[1 + 2 * f.code.addrs]? = some (BitVec.ofNat 8 (1 + data.length)) := by
  rcases f.code.addrs_eq with ha | ha <;> simp [Form.body, ha, h]

theorem Form.carries_iff :
    f.carries data = true ↔
      f.code ≠ .reserved ∧ (f.il = 0#6 → data.length ≤ 254) ∧ (f.il ≠ 0#6 → f.il.toNat = 1 + data.length) := by
  by_cases hl : f.il = 0#6 <;> simp [Form.carries, hl]

/-- A frame has at most 260 bytes (R118). -/
theorem Form.length_le_of_carries (h : f.carries data = true) : f.sidAt + 1 + data.length + 1 ≤ 260 := by
  obtain ⟨-, hl, hi⟩ := (f.carries_iff data).mp h
  have hs := f.sidAt_le
  by_cases h0 : f.il = 0#6
  · have := hl h0; omega
  · have := hi h0; have := f.il.isLt; omega

/-- The message operands are read back from where the frame has them (R116). -/
theorem frameMessage_body (c : Byte) (rest : List Byte) :
    frameMessage (f.requirements data.length) (f.body dst src sid data ++ c :: rest)
      = f.message dst src sid data := by
  obtain ⟨code, il⟩ := f
  cases code <;> by_cases hl : il = 0#6 <;>
    simp [frameMessage, Form.requirements, Form.message, Form.body, Requirements.sidAt, AddrCode.addrs, hl]

end

/-! ### Parsing (R153, R156) -/

/-- What `determine_requirements` needs to see of a frame: its length byte, where the form has one. -/
theorem formRequirements_of_lengthByte {f : Form} {rest : List Byte} {n : Nat}
    (hbyte : f.il = 0#6 → rest[1 + 2 * f.code.addrs]? = some (BitVec.ofNat 8 (1 + n)))
    (hl : f.il = 0#6 → n ≤ 254) (hi : f.il ≠ 0#6 → f.il.toNat = 1 + n) :
    formRequirements f rest = some (f.requirements n) := by
  by_cases h0 : f.il = 0#6
  · have hn : (1 + n) % 256 = 1 + n := by have := hl h0; omega
    simp [formRequirements, Form.requirements, h0, hbyte h0, hn]
  · simp [formRequirements, Form.requirements, h0, hi h0]

/-- The tests of R156 behind the requirements, in their order, for a form that is not reserved and a buffer that holds
the frame. -/
theorem parseForm_of_requirements {f : Form} {cap off n : Nat} {buf : List Byte} (hcode : f.code ≠ .reserved)
    (hne : buf.drop off ≠ []) (hq : formRequirements f (buf.drop off) = some (f.requirements n))
    (hcap : off + (f.sidAt + 1 + n + 1) ≤ cap) :
    parseForm f cap buf off =
      if (buf.drop off).length < f.sidAt + 1 + n + 1 then
        .notEnoughData (f.sidAt + 1 + n + 1 - (buf.drop off).length)
      else if checksum ((buf.drop off).take (f.sidAt + 1 + n)) ≠ (buf.drop off).getD (f.sidAt + 1 + n) 0#8 then
        .invalidChecksum
      else .message (frameMessage (f.requirements n) (buf.drop off)) (f.sidAt + 1 + n + 1) := by
  have hpos : ¬(buf.drop off).length < 1 := by
    have := List.length_pos_iff.mpr hne; omega
  have hdata : (f.requirements n).dataLen ≠ 0 := by simp [Form.requirements]
  have hroom : ¬cap < off + (f.sidAt + 1 + n + 1) := by omega
  simp only [parseForm, if_neg hpos, if_neg hcode, hq, if_neg hdata, f.requirements_total,
    if_neg hroom, Nat.add_sub_cancel]

/-- `B` has the length of a body of the form `f` with `n` data bytes, which the form can carry, and its length byte
where it has one; its other bytes are free. -/
structure Form.Shaped (f : Form) (n : Nat) (B : List Byte) : Prop where
  code : f.code ≠ .reserved
  length : B.length = f.sidAt + 1 + n
  lengthByte : f.il = 0#6 → B[1 + 2 * f.code.addrs]? = some (BitVec.ofNat 8 (1 + n))
  explicit : f.il = 0#6 → n ≤ 254
  inline : f.il ≠ 0#6 → f.il.toNat = 1 + n

theorem Form.shaped_body {f : Form} {data : List Byte} (h : f.carries data = true) (dst src sid : Byte) :
    f.Shaped data.length (f.body dst src sid data) := by
  obtain ⟨hcode, hl, hi⟩ := (f.carries_iff data).mp h
  exact ⟨hcode, f.body_length dst src sid data, f.body_lengthByte dst src sid data, hl, hi⟩

/-- One byte changed keeps the shape where it is not the length byte. -/
theorem Form.Shaped.set {f : Form} {n : Nat} {B : List Byte} (h : f.Shaped n B) {k : Nat}
    (hk : f.il = 0#6 → k ≠ 1 + 2 * f.code.addrs) (b : Byte) : f.Shaped n (B.set k b) where
  code := h.code
  length := by simp [h.length]
  lengthByte h0 := by rw [List.getElem?_set_ne (hk h0)]; exact h.lengthByte h0
  explicit := h.explicit
  inline := h.inline

/-- The parse of a whole frame: its checksum decides (R156). -/
theorem parseForm_shaped {f : Form} {cap off n : Nat} {buf B rest : List Byte} {c : Byte} (hB : f.Shaped n B)
    (hbuf : buf.drop off = B ++ c :: rest) (hcap : off + (B.length + 1) ≤ cap) :
    parseForm f cap buf off =
      if checksum B ≠ c then .invalidChecksum
      else .message (frameMessage (f.requirements n) (B ++ c :: rest)) (B.length + 1) := by
  have hlen := hB.length
  have hq : formRequirements f (buf.drop off) = some (f.requirements n) := by
    refine formRequirements_of_lengthByte (fun h0 => ?_) hB.explicit hB.inline
    rw [hbuf]
    have hbyte := hB.lengthByte h0
    rw [List.getElem?_append_left (List.getElem?_eq_some_iff.mp hbyte).1, hbyte]
  rw [parseForm_of_requirements hB.code (by simp [hbuf]) hq (by omega), hbuf, ← hlen]
  have hroom : ¬(B ++ c :: rest).length < B.length + 1 := by simp
  have hc : (B ++ c :: rest).getD B.length 0#8 = c := by simp
  simp only [if_neg hroom, List.take_left, hc]

/-- The parse of a proper, not empty beginning of a frame asks for bytes of those missing (R162). -/
theorem parseForm_prefix {f : Form} {cap off n : Nat} {buf B : List Byte} {c : Byte} {k : Nat} (hB : f.Shaped n B)
    (hbuf : buf.drop off = (B ++ [c]).take k) (hk : 1 ≤ k) (hk' : k < B.length + 1)
    (hcap : off + (B.length + 1) ≤ cap) :
    ∃ m, 1 ≤ m ∧ m ≤ B.length + 1 - k ∧ parseForm f cap buf off = .notEnoughData m := by
  have hlen := hB.length
  have hbuf' : buf.drop off = B.take k := by rw [hbuf, List.take_append_of_le_length (by omega)]
  have hklen : (buf.drop off).length = k := by rw [hbuf']; simp; omega
  have hne : buf.drop off ≠ [] := by intro h; simp [h] at hklen; omega
  by_cases hin : f.il = 0#6 ∧ k ≤ 1 + 2 * f.code.addrs
  · obtain ⟨h0, hle⟩ := hin
    have hnone : (buf.drop off)[1 + 2 * f.code.addrs]? = none := List.getElem?_eq_none (by omega)
    have hq : formRequirements f (buf.drop off) = none := by simp only [formRequirements, h0, hnone]; simp
    refine ⟨2 * f.code.addrs + 4 - k, by omega, by simp [Form.sidAt, h0] at hlen; omega, ?_⟩
    have hpos : ¬(buf.drop off).length < 1 := by omega
    simp only [parseForm, if_neg hpos, if_neg hB.code, hq]
    rw [hklen]
  · have hq : formRequirements f (buf.drop off) = some (f.requirements n) := by
      refine formRequirements_of_lengthByte (fun h0 => ?_) hB.explicit hB.inline
      have hlt : 1 + 2 * f.code.addrs < k := by by_contra h; exact hin ⟨h0, by omega⟩
      rw [hbuf', List.getElem?_take_of_lt hlt]
      exact hB.lengthByte h0
    refine ⟨B.length + 1 - k, by omega, by omega, ?_⟩
    rw [parseForm_of_requirements hB.code hne hq (by omega), if_pos (by omega), hklen, ← hlen]

/-- The parse of a whole frame with its own checksum gives its message (R156, R116). -/
theorem parseForm_frame {f : Form} {cap off : Nat} {buf data rest : List Byte} {dst src sid : Byte}
    (h : f.carries data = true) (hbuf : buf.drop off = f.frame dst src sid data ++ rest)
    (hcap : off + (f.frame dst src sid data).length ≤ cap) :
    parseForm f cap buf off = .message (f.message dst src sid data) (f.frame dst src sid data).length := by
  have hlen : (f.frame dst src sid data).length = (f.body dst src sid data).length + 1 := by simp [Form.frame]
  have hbuf' : buf.drop off = f.body dst src sid data ++ checksum (f.body dst src sid data) :: rest := by
    rw [hbuf]; simp [Form.frame]
  rw [parseForm_shaped (Form.shaped_body h dst src sid) hbuf' (by omega), hlen, frameMessage_body]
  simp

theorem parseFrame_eq {cap off : Nat} {buf r : List Byte} {b : Byte} (h : buf.drop off = b :: r) :
    parseFrame cap buf off = parseForm (Form.ofByte b) cap buf off := by
  simp [parseFrame, h]

/-- The format byte at the front selects the form the parse goes by (R111). -/
theorem parseFrame_of_form {f : Form} {cap off : Nat} {buf r : List Byte} (h : buf.drop off = f.byte :: r) :
    parseFrame cap buf off = parseForm f cap buf off := by
  rw [parseFrame_eq h, f.ofByte_byte]

/-! ### Serialization (R152, R155) -/

theorem serializable_iff (m : Message) :
    serializable m = true ↔ m.data.length ≤ 254 ∧ (m.mode = .none → m.src = 0#8 ∧ m.dst = 0#8) := by
  cases h : m.mode <;> simp [serializable, h]

/-- The inline form is chosen exactly up to wire length 63 (R115). -/
theorem Form.forLength_il_eq_zero (m : AddrMode) (n : Nat) : (Form.forLength m (1 + n)).il = 0#6 ↔ 63 ≤ n := by
  unfold Form.forLength
  split
  · rw [← BitVec.toNat_inj]; simp; omega
  · simp; omega

theorem Form.forLength_carries {m : AddrMode} {data : List Byte} (h : data.length ≤ 254) :
    (Form.forLength m (1 + data.length)).carries data = true := by
  refine (Form.carries_iff _ _).mpr ⟨AddrCode.ofMode_ne_reserved m, fun _ => h, fun hil => ?_⟩
  have hlt : ¬63 ≤ data.length := fun hle => hil ((Form.forLength_il_eq_zero m _).mpr hle)
  have hle : 1 + data.length ≤ 63 := by omega
  simp [Form.forLength, hle]; omega

/-- The bytes the serializer writes are the frame of the form it chooses (R152, R110). -/
theorem frameBody_eq (m : Message) :
    frameBody m = (Form.forLength m.mode (1 + m.data.length)).body m.dst m.src m.sid m.data := by
  have hil := Form.forLength_il_eq_zero m.mode m.data.length
  have hcode : (Form.forLength m.mode (1 + m.data.length)).code.addrs = if m.mode = .none then 0 else 1 :=
    AddrCode.addrs_ofMode m.mode
  have haddrs : (if m.mode = .none then [] else [m.dst, m.src])
      = if (Form.forLength m.mode (1 + m.data.length)).code.addrs = 1 then [m.dst, m.src] else [] := by
    rw [hcode]; split <;> rfl
  have hlength : (if 1 + m.data.length ≤ 63 then [] else [BitVec.ofNat 8 (1 + m.data.length)])
      = if (Form.forLength m.mode (1 + m.data.length)).il = 0#6 then [BitVec.ofNat 8 (1 + m.data.length)] else [] := by
    rw [if_congr hil rfl rfl, ← ite_not]; exact if_congr (by omega) rfl rfl
  simp only [frameBody, Form.body, haddrs, hlength]

theorem serialize_eq (m : Message) (h : serializable m = true) :
    serialize m = some ((Form.forLength m.mode (1 + m.data.length)).frame m.dst m.src m.sid m.data) := by
  simp [serialize, h, frameBody_eq, Form.frame]

/-- What was serialized is the frame, of the form the serializer chooses, of a message that form carries. -/
theorem eq_frame_of_serialize {m : Message} {f : List Byte} (h : serialize m = some f) :
    serializable m = true ∧ (Form.forLength m.mode (1 + m.data.length)).carries m.data = true
      ∧ f = (Form.forLength m.mode (1 + m.data.length)).frame m.dst m.src m.sid m.data := by
  have hs : serializable m = true := by
    by_contra hn; simp [serialize, hn] at h
  refine ⟨hs, Form.forLength_carries ((serializable_iff m).mp hs).1, ?_⟩
  rw [serialize_eq m hs] at h
  exact (Option.some.inj h).symm

/-- A serialized frame has at most 260 bytes, `MAX_FRAME` (R118). -/
theorem length_le_of_serialize {m : Message} {f : List Byte} (h : serialize m = some f) : f.length ≤ 260 := by
  obtain ⟨-, hc, rfl⟩ := eq_frame_of_serialize h
  rw [Form.frame_length]
  exact Form.length_le_of_carries _ _ hc

/-- Settles O4: `serializable_iff`, and the chosen form with its frame's length. -/
theorem serializeLayout : Obligations.SerializeLayout := by
  intro m
  refine ⟨serializable_iff m, fun h => by simp [serialize, h], fun h => ?_⟩
  have hs := serialize_eq m h
  have hil := Form.forLength_il_eq_zero m.mode m.data.length
  refine ⟨Form.forLength m.mode (1 + m.data.length), rfl, (eq_frame_of_serialize hs).2.1, ?_, hil.mpr, hs, ?_,
    length_le_of_serialize hs⟩
  · intro hle h0; have := hil.mp h0; omega
  · rw [Form.frame_length]; have := (Form.forLength m.mode (1 + m.data.length)).sidAt_pos; omega

/-- Settles O5: the frame is parsed to the message of its operands (`parseForm_frame`); a message without addresses has
zeros for them, so nothing is lost. -/
theorem parseOfSerialize : Obligations.ParseOfSerialize := by
  intro cap m f rest hcap h
  have hlen := length_le_of_serialize h
  obtain ⟨hs, hc, rfl⟩ := eq_frame_of_serialize h
  set F := Form.forLength m.mode (1 + m.data.length) with hF
  have hfront : (F.frame m.dst m.src m.sid m.data ++ rest).drop 0
      = F.byte :: ((F.frame m.dst m.src m.sid m.data).tail ++ rest) := by simp [Form.frame, Form.body]
  refine ⟨F.message m.dst m.src m.sid m.data, ?_, ?_⟩
  · rw [parseFrame_of_form hfront]
    exact parseForm_frame hc rfl (by omega)
  · have hmode : F.code.mode = m.mode := AddrCode.mode_ofMode m.mode
    have haddrs : F.code.addrs = if m.mode = .none then 0 else 1 := AddrCode.addrs_ofMode m.mode
    have hzero := ((serializable_iff m).mp hs).2
    by_cases hm : m.mode = .none
    · obtain ⟨hsrc, hdst⟩ := hzero hm
      simp [Message.same, Form.message, hmode, haddrs, hm, hsrc, hdst]
    · simp [Message.same, Form.message, hmode, haddrs, hm]

/-- Settles O6: the changed frame still has the shape of a frame, and the changed byte moves the sum or is the checksum
itself (`checksum_set_ne`). -/
theorem corruptedByteIsDetected : Obligations.CorruptedByteIsDetected := by
  intro cap m f k b hcap h hk hb hk0 hkl
  have hlen := length_le_of_serialize h
  obtain ⟨hs, hc, rfl⟩ := eq_frame_of_serialize h
  set F := Form.forLength m.mode (1 + m.data.length) with hF
  have hshape := Form.shaped_body hc m.dst m.src m.sid
  have hnl : F.il = 0#6 → k ≠ 1 + 2 * F.code.addrs := by
    intro h0
    have hne := hkl ((Form.forLength_il_eq_zero m.mode _).mp h0)
    have haddrs : F.code.addrs = if m.mode = .none then 0 else 1 := AddrCode.addrs_ofMode m.mode
    rw [haddrs]; split at hne <;> simp_all
  set B := F.body m.dst m.src m.sid m.data with hBdef
  have hframe : F.frame m.dst m.src m.sid m.data = B ++ [checksum B] := rfl
  rw [hframe] at hk hb hlen ⊢
  simp only [List.length_append, List.length_singleton] at hk hlen
  have hfront : ∀ x : List Byte, x = (B ++ [checksum B]).set k b → x.drop 0 = F.byte :: x.tail := by
    rintro x rfl
    obtain ⟨j, rfl⟩ := Nat.exists_eq_succ_of_ne_zero hk0
    simp [hBdef, Form.body]
  rw [parseFrame_of_form (hfront _ rfl)]
  by_cases hlast : k = B.length
  · have hset : (B ++ [checksum B]).set k b = B ++ [b] := by simp [hlast]
    have hne : checksum B ≠ b := by simpa [hlast] using hb
    rw [hset, parseForm_shaped hshape (List.drop_zero ..) (by omega), if_pos hne]
  · have hkB : k < B.length := by omega
    have hset : (B ++ [checksum B]).set k b = B.set k b ++ [checksum B] := List.set_append_left _ _ hkB
    have hne : checksum (B.set k b) ≠ checksum B := by
      refine checksum_set_ne B k hkB b fun heq => hb ?_
      rw [List.getElem?_append_left hkB, List.getElem?_eq_getElem hkB, heq]
    rw [hset, parseForm_shaped (hshape.set hnl b) (List.drop_zero ..) (by simp; omega), if_pos hne]

/-- Settles O7: `parseForm_prefix` for the form the serializer chose. -/
theorem prefixNeedsMoreBytes : Obligations.PrefixNeedsMoreBytes := by
  intro cap m f k hcap h hk
  have hlen := length_le_of_serialize h
  obtain ⟨hs, hc, rfl⟩ := eq_frame_of_serialize h
  set F := Form.forLength m.mode (1 + m.data.length) with hF
  have hframe : F.frame m.dst m.src m.sid m.data = F.body m.dst m.src m.sid m.data ++ [_] := rfl
  have hflen : (F.frame m.dst m.src m.sid m.data).length = (F.body m.dst m.src m.sid m.data).length + 1 := by
    simp [hframe]
  split
  · next hk0 => simp [hk0, parseFrame]
  · next hk0 =>
    have hfront : ((F.frame m.dst m.src m.sid m.data).take k).drop 0
        = F.byte :: ((F.frame m.dst m.src m.sid m.data).take k).tail := by
      obtain ⟨j, rfl⟩ := Nat.exists_eq_succ_of_ne_zero hk0
      simp [Form.frame, Form.body]
    rw [parseFrame_of_form hfront, hflen]
    exact parseForm_prefix (Form.shaped_body hc m.dst m.src m.sid) rfl (by omega) (by omega) (by omega)

/-- The requirements a form answers: its inline length, or the byte behind the addresses (R153). -/
theorem formRequirements_eq_some {f : Form} {rest : List Byte} {q : Requirements}
    (h : formRequirements f rest = some q) :
    q.headerLen = 1 + 2 * f.code.addrs ∧ q.mode = f.code ∧ q.checksumLen = 1
      ∧ q.hasLenByte = decide (f.il = 0#6)
      ∧ (f.il ≠ 0#6 → q.dataLen = f.il.toNat)
      ∧ (f.il = 0#6 → ∃ l, rest[1 + 2 * f.code.addrs]? = some l ∧ q.dataLen = l.toNat) := by
  unfold formRequirements at h
  dsimp only at h
  split at h
  · next hil =>
    obtain rfl := Option.some.inj h
    exact ⟨rfl, rfl, rfl, by simp [hil], fun _ => rfl, fun h0 => absurd h0 hil⟩
  · next hil =>
    split at h
    · simp at h
    · next l hl =>
      obtain rfl := Option.some.inj h
      have h0 : f.il = 0#6 := not_not.mp hil
      exact ⟨rfl, rfl, rfl, by simp [h0], fun hne => absurd h0 hne, fun _ => ⟨l, hl, rfl⟩⟩

theorem exists_addresses {r : List Byte} {c : AddrCode} (h : 2 * c.addrs ≤ r.length) :
    ∃ dst src r', r = (if c.addrs = 1 then [dst, src] else []) ++ r' := by
  rcases c.addrs_eq with ha | ha
  · exact ⟨0#8, 0#8, r, by simp [ha]⟩
  · match r, h with
    | dst :: src :: r', _ => exact ⟨dst, src, r', by simp [ha]⟩
    | [_], h => simp [ha] at h
    | [], h => simp [ha] at h

theorem exists_append_cons_of_lt {n : Nat} {l : List Byte} (h : n < l.length) :
    ∃ data c rest, l = data ++ c :: rest ∧ data.length = n :=
  ⟨l.take n, l[n], l.drop (n + 1), by simp, by simp; omega⟩

/-- The bytes at the front of a buffer that is long enough for its own requirements are a body of its form and a byte
behind it (R110, R153). -/
theorem exists_body_of_requirements {f : Form} {r : List Byte} {q : Requirements}
    (hcode : f.code ≠ .reserved) (hq : formRequirements f (f.byte :: r) = some q)
    (hdata : q.dataLen ≠ 0) (hlen : q.total ≤ (f.byte :: r).length) :
    ∃ (dst src sid c : Byte) (data rest : List Byte), f.carries data = true
      ∧ f.byte :: r = f.body dst src sid data ++ c :: rest
      ∧ q.total = (f.body dst src sid data).length + 1 := by
  obtain ⟨hhead, -, hck, hlb, hinline, hexplicit⟩ := formRequirements_eq_some hq
  have htotal : q.total = f.sidAt + q.dataLen + 1 := by
    simp [Requirements.total, Form.sidAt, hhead, hck, hlb]
  rw [htotal, List.length_cons] at hlen
  have hsid : f.sidAt = 1 + 2 * f.code.addrs + (if f.il = 0#6 then 1 else 0) := rfl
  obtain ⟨dst, src, r₁, rfl⟩ := exists_addresses (r := r) (c := f.code) (by omega)
  have haddrs : (if f.code.addrs = 1 then [dst, src] else []).length = 2 * f.code.addrs := by
    rcases f.code.addrs_eq with ha | ha <;> simp [ha]
  have hlength : ∃ r₂, r₁ = (if f.il = 0#6 then [BitVec.ofNat 8 q.dataLen] else []) ++ r₂ := by
    by_cases h0 : f.il = 0#6
    · obtain ⟨l, hl, hld⟩ := hexplicit h0
      rw [Nat.add_comm, List.getElem?_cons_succ, ← haddrs, List.getElem?_append_right le_rfl, Nat.sub_self] at hl
      match r₁, hl with
      | x :: r₂, hl =>
        obtain rfl : x = l := by simpa using hl
        exact ⟨r₂, by simp [h0, hld]⟩
    · exact ⟨r₁, by simp [h0]⟩
  obtain ⟨r₂, rfl⟩ := hlength
  have hr₂ : q.dataLen < r₂.length := by
    rw [List.length_append, haddrs, List.length_append] at hlen
    by_cases h0 : f.il = 0#6 <;> simp [h0] at hlen hsid <;> omega
  obtain ⟨sid, r₃, rfl⟩ := List.exists_cons_of_length_pos (by omega : 0 < r₂.length)
  rw [List.length_cons] at hr₂
  obtain ⟨data, c, rest, rfl, hd⟩ := exists_append_cons_of_lt (n := q.dataLen - 1) (l := r₃) (by omega)
  have hwire : q.dataLen = 1 + data.length := by omega
  have hcarries : f.carries data = true := by
    refine (f.carries_iff data).mpr ⟨hcode, fun h0 => ?_, fun h0 => ?_⟩
    · obtain ⟨l, -, hl⟩ := hexplicit h0; have := l.isLt; omega
    · rw [← hinline h0, hwire]
  refine ⟨dst, src, sid, c, data, rest, hcarries, by simp [Form.body, hwire], ?_⟩
  rw [htotal, f.body_length]; omega

/-- What a parsed message has passed of the tests of R156. -/
theorem parseForm_eq_message {f : Form} {cap off n : Nat} {buf : List Byte} {m : Message}
    (h : parseForm f cap buf off = .message m n) :
    f.code ≠ .reserved ∧ ∃ q, formRequirements f (buf.drop off) = some q ∧ q.dataLen ≠ 0 ∧ off + q.total ≤ cap
      ∧ q.total ≤ (buf.drop off).length := by
  unfold parseForm at h
  dsimp only at h
  split at h
  · simp at h
  split at h
  · simp at h
  next hcode =>
  split at h
  · simp at h
  next q hq =>
  split at h
  · simp at h
  next hdata =>
  split at h
  · simp at h
  next hcap =>
  split at h
  · simp at h
  next hlen =>
  exact ⟨hcode, q, hq, hdata, by omega, by omega⟩

/-- Settles O8: the bytes there are a body of the form and a byte (`exists_body_of_requirements`), whose parse is known
(`parseForm_shaped`), so the byte is the checksum. -/
theorem parsedMessageIsAFrame : Obligations.ParsedMessageIsAFrame := by
  intro cap buf off m n h
  obtain ⟨b, r, hbuf⟩ : ∃ b r, buf.drop off = b :: r := by
    unfold parseFrame at h
    split at h
    · simp at h
    · exact ⟨_, _, by assumption⟩
  rw [parseFrame_eq hbuf] at h
  have hb := Form.byte_ofByte b
  generalize Form.ofByte b = f at h hb
  subst hb
  obtain ⟨hcode, q, hq, hdata, hcap, hlen⟩ := parseForm_eq_message h
  rw [hbuf] at hq hlen
  obtain ⟨dst, src, sid, c, data, rest, hcarries, hbytes, htotal⟩ := exists_body_of_requirements hcode hq hdata hlen
  rw [hbytes] at hbuf
  rw [parseForm_shaped (Form.shaped_body hcarries dst src sid) hbuf (by omega), frameMessage_body] at h
  split at h
  · simp at h
  next hc =>
  obtain ⟨rfl, rfl⟩ := ParseResult.message.inj h
  have hc : checksum (f.body dst src sid data) = c := not_not.mp hc
  exact ⟨f, dst, src, sid, data, rest, hcarries, by simp [hbuf, Form.frame, hc], rfl, by simp [Form.frame], by omega⟩

end Sys2Proof.Machine

namespace Sys2Proof.Machine

/-! ### The scan and the flush, read as one update (R262 to R266) -/

/-- The extraction of a frame is the update `framed` (R265, R266). -/
theorem State.onFrame_eq_framed (s : State) (m : Message) (k n : Nat) :
    s.onFrame m k n = s.framed m k (s.rxbuf.drop (k + n)) := by
  by_cases hk : 0 < k <;> by_cases hr : s.rxbuf.drop (k + n) = [] <;>
    simp [State.onFrame, State.framed, State.onBufferEmpty, State.rxDropFront, State.raise, hk, hr,
      Stopwatch.reset, Stopwatch.restart]

/-- The discard of one byte is the update `dropped` (R263, R266). -/
theorem State.discardOne_goto_eq_dropped (s : State) (kind : FrameKind) :
    (s.discardOne kind).goto .start = s.dropped kind := by
  by_cases hr : s.rxbuf.tail = [] <;> by_cases he : s.expecting <;>
    simp [State.discardOne, State.dropped, State.onBufferEmpty, State.rxDropFront, State.raise, State.goto, hr, he,
      Stopwatch.reset, Stopwatch.restart]

theorem State.scanOnce_of_message {s : State} {f : Form} {m : Message} {n : Nat} (hne : s.rxbuf ≠ [])
    (h : parseForm f s.cfg.rxbufCap s.rxbuf 0 = .message m n) :
    s.scanOnce f = s.framed m 0 (s.rxbuf.drop n) := by
  simp [State.scanOnce, hne, h, s.onFrame_eq_framed]

theorem State.scanOnce_of_notEnoughData {s : State} {f : Form} {n : Nat}
    (h : parseForm f s.cfg.rxbufCap s.rxbuf 0 = .notEnoughData n) : s.scanOnce f = s.scanWaits := by
  simp [State.scanOnce, h]

theorem State.scanOnce_of_noData {s : State} {f : Form} (hne : s.rxbuf ≠ [])
    (h : parseForm f s.cfg.rxbufCap s.rxbuf 0 = .noData) : s.scanOnce f = s.dropped .noData := by
  simp [State.scanOnce, hne, h, s.discardOne_goto_eq_dropped]

theorem State.scanOnce_of_invalidChecksum {s : State} {f : Form} (hne : s.rxbuf ≠ [])
    (h : parseForm f s.cfg.rxbufCap s.rxbuf 0 = .invalidChecksum) : s.scanOnce f = s.dropped .invalidChecksum := by
  simp [State.scanOnce, hne, h, s.discardOne_goto_eq_dropped]

/-- The end of the flush, read as one update (R264, R266). -/
theorem State.flushEnd_eq (s : State) :
    s.flushEnd = { s with
      micro := .start, p1Flush := false, rxDirty := false, rxbuf := []
      events := s.events ++ (if s.rxbuf = [] then [] else [.garbageFlushed s.rxbuf.length])
      swP1 := if s.rxbuf = [] then s.swP1 else ⟨false, 0⟩
      swP2 := if s.rxbuf ≠ [] ∧ s.expecting = true then ⟨true, 0⟩ else s.swP2 } := by
  by_cases hr : s.rxbuf = [] <;> by_cases he : s.expecting <;>
    simp [State.flushEnd, State.onBufferEmpty, State.rxDropFront, State.raise, hr, he, List.length_pos_iff,
      Stopwatch.reset, Stopwatch.restart]

/-- A declared length of zero is NoData (R156, R157). -/
theorem parseForm_of_zero_length {f : Form} {cap : Nat} {buf : List Byte} (hcode : f.code ≠ .reserved)
    (hil : f.il = 0#6) (h : buf[1 + 2 * f.code.addrs]? = some 0#8) : parseForm f cap buf 0 = .noData := by
  have hq : formRequirements f buf = some ⟨1 + 2 * f.code.addrs, f.code, 0, 1, true⟩ := by
    simp [formRequirements, hil, h]
  simp [parseForm, hcode, hq]

theorem parseForm_of_reserved {f : Form} {cap off : Nat} {buf : List Byte} (hcode : f.code = .reserved) :
    parseForm f cap buf off = .noData := by
  simp [parseForm, hcode]

/-! ### The sequencer in phase C -/

theorem seqStep_of_no_item {s : State} (h : s.fetch = none) : seqStep s = s.internal := by simp [seqStep, h]

theorem seqStep_of_item {s : State} {p : Port} {bs r : List Byte} {i : Instr} (h : s.fetch = some (p, bs))
    (hd : decode p bs = .ok (i, r)) : seqStep s = exec i s := by
  simp [seqStep, h, hd]

theorem seqStep_of_undecoded {s : State} {p : Port} {bs : List Byte} {x : DecodeError} (h : s.fetch = some (p, bs))
    (hd : decode p bs = .error x) : seqStep s = s.internal := by
  simp [seqStep, h, hd]

/-- At the start of phase C with no byte to scan the loop test decides (R261). -/
theorem seqStep_phaseC {s : State} (hp : s.phase = .c) (hm : s.micro = .start)
    (h : s.p1Flush = true ∨ s.rxDirty = false ∨ s.rxbuf = []) : seqStep s = .next s.phaseC := by
  have hf : s.fetch = none := by
    rcases h with h | h | h <;> simp [State.fetch, hp, hm, h]
  simp [seqStep_of_no_item hf, State.internal, hp, hm]

theorem seqStep_flushEnd {s : State} {k : Nat} (hp : s.phase = .c) (hm : s.micro = .flush k)
    (h : s.rxbuf.length ≤ k) : seqStep s = .next s.flushEnd := by
  have hf : s.fetch = none := by simp [State.fetch, hp, hm, h]
  simp [seqStep_of_no_item hf, State.internal, hp, hm]

/-- Settles O11: the scan's parse is `parseForm_frame`, its effect `framed`. -/
theorem completeFrameIsReceived : Obligations.CompleteFrameIsReceived := by
  intro i f s dst src sid data rest hi hc hcap hm hbuf
  have hlen : (f.frame dst src sid data).length ≤ 260 := by
    rw [f.frame_length]; exact f.length_le_of_carries data hc
  have hparse := parseForm_frame (off := 0) (cap := s.cfg.rxbufCap) (buf := s.rxbuf) hc hbuf (by omega)
  have hne : s.rxbuf ≠ [] := by simp [hbuf, Form.frame, Form.body]
  rw [exec_of_form s hi, s.header_of_scan f hm, State.scanOnce_of_message hne hparse, hbuf, List.drop_left]

/-- Settles O12: each of the three causes by its parse, then `dropped`. -/
theorem malformedFrameDropsOneByte : Obligations.MalformedFrameDropsOneByte := by
  intro i f s hi hm
  rw [exec_of_form s hi, s.header_of_scan f hm]
  refine ⟨fun hcode hne => ?_, fun hcode hil hzero => ?_, fun dst src sid c data rest hc hcap hne hbuf => ?_⟩
  · rw [State.scanOnce_of_noData hne (parseForm_of_reserved hcode)]
  · have hne : s.rxbuf ≠ [] := by rintro h; simp [h] at hzero
    rw [State.scanOnce_of_noData hne (parseForm_of_zero_length hcode hil hzero)]
  · have hlen := f.length_le_of_carries data hc
    have hparse := parseForm_shaped (cap := s.cfg.rxbufCap) (off := 0) (Form.shaped_body hc dst src sid) hbuf
      (by rw [f.body_length]; omega)
    rw [if_pos hne.symm] at hparse
    rw [State.scanOnce_of_invalidChecksum (by simp [hbuf]) hparse]

/-- Settles O13: the beginning of a frame asks for bytes (`parseForm_prefix`), an empty or clean buffer leaves the loop
test. -/
theorem incompleteFrameWaits : Obligations.IncompleteFrameWaits := by
  refine ⟨fun i f s dst src sid data k hi hc hcap hm hk hlt hbuf => ?_,
    fun s hp hm hfl => ⟨fun hd hb => ?_, fun hd => ?_⟩⟩
  · have hlen := f.length_le_of_carries data hc
    have hbody := f.body_length dst src sid data
    obtain ⟨n, -, -, hparse⟩ := parseForm_prefix (cap := s.cfg.rxbufCap) (off := 0) (buf := s.rxbuf)
      (Form.shaped_body hc dst src sid) hbuf hk (by simpa [Form.frame] using hlt) (by omega)
    rw [exec_of_form s hi, s.header_of_scan f hm, State.scanOnce_of_notEnoughData hparse]
    rfl
  · rw [seqStep_phaseC hp hm (.inr (.inr hb))]
    simp [State.phaseC, hfl, hd, State.scanWaits, ← hm]
  · rw [seqStep_phaseC hp hm (.inr (.inl hd))]
    simp [State.phaseC, hfl, hd, State.toPhase, ← hm]

/-- Settles O14: the turn of the flush at an offset by its parse, its two ends by the phase's loop. -/
theorem flushTakesFrameBehindGarbage : Obligations.FlushTakesFrameBehindGarbage := by
  refine ⟨fun i f s dst src sid data g rest hi hc hm hbuf hcap => ?_, fun i f s k hi hm hbyte hno => ?_,
    fun s hp hm hfl => ?_, fun s k hp hm hlen => ?_⟩
  · have hdrop : s.rxbuf.drop g.length = f.frame dst src sid data ++ rest := by simp [hbuf]
    have hparse := parseForm_frame (off := g.length) hc hdrop hcap
    have hrest : s.rxbuf.drop (g.length + (f.frame dst src sid data).length) = rest := by
      rw [← List.drop_drop, hdrop, List.drop_left]
    rw [exec_of_form s hi, s.header_of_flush f _ hm, State.flushAt, hparse]
    simp only [s.onFrame_eq_framed, hrest]
  · have hdrop : s.rxbuf.drop k = f.byte :: s.rxbuf.drop (k + 1) := by
      rw [List.drop_eq_getElem?_toList_append, hbyte]; rfl
    have hparse : ∀ m n, parseForm f s.cfg.rxbufCap s.rxbuf k ≠ .message m n := by
      intro m n; rw [← parseFrame_of_form hdrop]; exact hno m n
    rw [exec_of_form s hi, s.header_of_flush f _ hm, State.flushAt]
    split
    · next m n h => exact absurd h (hparse m n)
    all_goals rfl
  · rw [seqStep_phaseC hp hm (.inl hfl)]
    simp [State.phaseC, hfl, State.goto]
  · rw [seqStep_flushEnd hp hm hlen, s.flushEnd_eq]

/-! ### The receive path (R255, R256, R258) -/

/-- `rx_append` (R84): what fits is appended, the rest lost and reported. -/
theorem State.rxAppend_eq (s : State) (bs : List Byte) (h : s.rxbuf.length ≤ s.cfg.rxbufCap) :
    s.rxAppend bs = { s with
      rxbuf := (s.rxbuf ++ bs).take s.cfg.rxbufCap
      rxDirty := s.rxDirty || decide (bs ≠ [] ∧ s.rxbuf.length < s.cfg.rxbufCap)
      events := s.events ++ (if s.cfg.rxbufCap < s.rxbuf.length + bs.length then
        [.bufferOverflow (s.rxbuf.length + bs.length - s.cfg.rxbufCap)] else []) } := by
  have htake : bs.take (min bs.length (s.cfg.rxbufCap - s.rxbuf.length))
      = bs.take (s.cfg.rxbufCap - s.rxbuf.length) := by
    rw [← List.take_take, List.take_of_length_le (by simp)]
  have hdirty : 1 ≤ min bs.length (s.cfg.rxbufCap - s.rxbuf.length)
      ↔ bs ≠ [] ∧ s.rxbuf.length < s.cfg.rxbufCap := by
    rw [← List.length_pos_iff]; omega
  have hover : min bs.length (s.cfg.rxbufCap - s.rxbuf.length) < bs.length
      ↔ s.cfg.rxbufCap < s.rxbuf.length + bs.length := by omega
  have hlost : bs.length - min bs.length (s.cfg.rxbufCap - s.rxbuf.length)
      = bs.length - (s.cfg.rxbufCap - s.rxbuf.length) := by omega
  have hlost' : s.rxbuf.length + bs.length - s.cfg.rxbufCap = bs.length - (s.cfg.rxbufCap - s.rxbuf.length) := by
    omega
  simp only [State.rxAppend, htake, hdirty, hover, hlost, hlost', List.take_append, List.take_of_length_le h]
  split <;> simp [State.raise]

/-- The read's data goes to the buffer if there is any (R255). -/
theorem State.receive_eq {s t : State} {r r' : List Byte} (h : echoFilter r s = (r', t)) :
    s.receive r = if r' = [] then t
      else if t.rxbuf.length < (t.rxAppend r').rxbuf.length then (t.rxAppend r').bytesReceived
      else t.rxAppend r' := by
  simp [State.receive, h, List.isEmpty_iff]

theorem State.receive_of_no_data {s t : State} {r : List Byte} (h : echoFilter r s = ([], t)) : s.receive r = t := by
  simp [State.receive_eq h]

/-- Data that fits, at least in part, is appended; P1 restarts and P2 stops (R256). -/
theorem State.receive_of_room {s t : State} {r r' : List Byte} (h : echoFilter r s = (r', t)) (hne : r' ≠ [])
    (hroom : t.rxbuf.length < t.cfg.rxbufCap) :
    s.receive r = { t with
      rxbuf := (t.rxbuf ++ r').take t.cfg.rxbufCap
      rxDirty := true
      events := t.events ++ (if t.cfg.rxbufCap < t.rxbuf.length + r'.length then
        [.bufferOverflow (t.rxbuf.length + r'.length - t.cfg.rxbufCap)] else [])
      swP1 := ⟨true, 0⟩
      swP2 := ⟨false, t.swP2.elapsed⟩ } := by
  have hpos := List.length_pos_iff.mpr hne
  have hgrows : t.rxbuf.length < ((t.rxbuf ++ r').take t.cfg.rxbufCap).length := by simp; omega
  rw [State.receive_eq h, if_neg hne, t.rxAppend_eq r' hroom.le, if_pos hgrows]
  simp [State.bytesReceived, hne, hroom, Stopwatch.restart, Stopwatch.stop]

/-- With a full buffer all the data is lost and reported (R84). -/
theorem State.receive_of_full {s t : State} {r r' : List Byte} (h : echoFilter r s = (r', t)) (hne : r' ≠ [])
    (hfull : t.cfg.rxbufCap ≤ t.rxbuf.length) :
    s.receive r = { t with events := t.events ++ [.bufferOverflow r'.length] } := by
  have hpos := List.length_pos_iff.mpr hne
  have hnone : t.cfg.rxbufCap - t.rxbuf.length = 0 := by omega
  have happend : t.rxAppend r' = { t with events := t.events ++ [.bufferOverflow r'.length] } := by
    simp [State.rxAppend, hnone, hpos, State.raise]
  rw [State.receive_eq h, if_neg hne, happend, if_neg (Nat.lt_irrefl _)]

@[simp] theorem echoFilter_nil (s : State) : echoFilter [] s = ([], s) := rfl

@[simp] theorem State.receive_nil (s : State) : s.receive [] = s := State.receive_of_no_data (echoFilter_nil s)

theorem seqStep_phaseB {s : State} (hp : s.phase = .b) (hm : s.micro = .start) :
    seqStep s = .next (s.drain.toPhase .c) := by
  have hf : s.fetch = none := by simp [State.fetch, hp, hm]
  simp [seqStep_of_no_item hf, State.internal, hp, hm]

/-- Settles O15: `receive` by the echo filter's answer and the room; the drain by the answer of its one read. -/
theorem receivedBytesAreAppended : Obligations.ReceivedBytesAreAppended := by
  intro s
  refine ⟨fun r r' t h => ⟨fun hr => ?_, State.receive_of_room h, State.receive_of_full h⟩, fun bs he hne hroom => ?_,
    fun hp hm => ?_⟩
  · subst hr; exact State.receive_of_no_data h
  · exact State.receive_of_room (echoFilter_of_no_echo s bs he) hne hroom
  · rw [seqStep_phaseB hp hm]
    refine ⟨fun hl => ?_, fun hl ha => ?_, fun hl ha => ?_⟩
    · simp [State.drain, State.lineAvail, hl, State.toPhase]
    · have hn : 0 < s.env.lineRx.length := List.length_pos_iff.mpr hl
      simp [State.drain, State.lineAvail, hn, s.readDone_eq_took ha, s.readBytes_of_ok ha, State.toPhase]
    · have hn : 0 < s.env.lineRx.length := List.length_pos_iff.mpr hl
      simp [State.drain, State.lineAvail, hn, s.readDone_of_fail ha, s.readBytes_of_fail ha, State.toPhase]

/-! ### The echo filter (R258) -/

/-- A byte that is the next of the echo is removed, and none before the echo is ignored any more. -/
theorem echoFilter_of_echo {s : State} {x : Byte} {xs : List Byte} (h : s.echoFifo = x :: xs) (ds : List Byte) :
    echoFilter (x :: ds) s
      = echoFilter ds { s with echoFifo := xs, ignoreCnt := 0, foundEcho := xs.isEmpty || s.foundEcho } := by
  simp [echoFilter_cons, echoByte, h]

/-- Another byte ends the echo tracking when none is left to ignore. -/
theorem echoFilter_of_mismatch {s : State} {x b : Byte} {xs : List Byte} (h : s.echoFifo = x :: xs) (hb : b ≠ x)
    (hi : s.ignoreCnt = 0) (ds : List Byte) :
    echoFilter (b :: ds) s = (b :: ds, { s with
      echoFifo := [], ignoreCnt := 0, foundEcho := false, events := s.events ++ [.echoMismatch (x :: xs) b] }) := by
  simp [echoFilter_cons, echoByte, h, hb, hi, State.raise, echoFilter_of_no_echo]

/-- Another byte is ignored while `IGNORE_CNT` lasts. -/
theorem echoFilter_of_ignored {s : State} {x b : Byte} {xs : List Byte} (h : s.echoFifo = x :: xs) (hb : b ≠ x)
    (hi : 0 < s.ignoreCnt) (ds : List Byte) :
    echoFilter (b :: ds) s = echoFilter ds { s with ignoreCnt := s.ignoreCnt - 1 } := by
  simp [echoFilter_cons, echoByte, h, hb, hi]

/-- The whole echo is removed, by induction on what is left of it. -/
theorem echoFilter_whole_echo (fifo : List Byte) (s : State) (h : s.echoFifo = fifo) (hne : fifo ≠ [])
    (ds : List Byte) :
    echoFilter (fifo ++ ds) s = (ds, { s with echoFifo := [], ignoreCnt := 0, foundEcho := true }) := by
  induction fifo generalizing s with
  | nil => exact absurd rfl hne
  | cons x xs ih =>
    rw [List.cons_append, echoFilter_of_echo h]
    cases xs with
    | nil => exact echoFilter_of_no_echo _ ds rfl
    | cons y ys => rw [ih _ rfl (List.cons_ne_nil y ys)]

/-- A read may be split anywhere. -/
theorem echoFilter_append (a b : List Byte) (s : State) :
    echoFilter (a ++ b) s
      = ((echoFilter a s).1 ++ (echoFilter b (echoFilter a s).2).1, (echoFilter b (echoFilter a s).2).2) := by
  induction a generalizing s with
  | nil => rfl
  | cons x xs ih =>
    simp only [List.cons_append, echoFilter_cons, ih]
    split <;> rfl

/-- Settles O16: the filter's equations byte by byte, the whole echo and the split by induction. -/
theorem echoIsRemoved : Obligations.EchoIsRemoved := by
  intro s
  refine ⟨fun ds h => echoFilter_of_no_echo s ds h, fun x y xs ds h => ?_,
    fun ds hne => echoFilter_whole_echo _ s rfl hne ds, fun a b => echoFilter_append a b s,
    fun x b xs ds h hb hi => echoFilter_of_mismatch h hb hi ds,
    fun x b xs ds h hb hi => echoFilter_of_ignored h hb hi ds⟩
  rw [echoFilter_of_echo h]; rfl

end Sys2Proof.Machine

namespace Sys2Proof

/-! ### Decoding what was encoded, by the place of the item

One lemma per reader: it takes back what the writer of the same operand put in front. -/

theorem decodeHeader_append (c : BitVec 2) (l : BitVec 6) :
    decodeHeader (c ++ l) =
      if c = 0#2 then (if l = 0#6 then .h1x else .h1i l)
      else if c = 1#2 then .hrv l
      else if c = 2#2 then (if l = 0#6 then .h3px else .h3pi l)
      else (if l = 0#6 then .h3fx else .h3fi l) := by
  have hc : BitVec.extractLsb' 6 2 (c ++ l) = c := BitVec.extractLsb'_append_eq_left
  have hl : BitVec.extractLsb' 0 6 (c ++ l) = l := BitVec.extractLsb'_append_eq_right
  simp only [decodeHeader]
  rw [hc, hl]

theorem decodeSid_of_not_named {b : Byte} (h : namedSids.contains b = false) (d : Dir) :
    decodeSid d b = if b.getLsbD 6 then .anyResponse b d else .anyRequest b d := by
  have hnames : sidRows.map Prod.fst = namedSids := rfl
  have hfind : sidRows.find? (fun row => row.1 == b) = none := by
    rw [List.find?_eq_none]
    intro row hrow heq
    have hmem : row.1 ∈ namedSids := hnames ▸ List.mem_map_of_mem hrow
    rw [beq_iff_eq.mp heq] at hmem
    simp [hmem] at h
  simp [decodeSid, hfind]

theorem readNat_natBytes (k n : Nat) (r : List Byte) (h : n < 256 ^ k) :
    readNat k (natBytes k n ++ r) = some (n, r) := by
  induction k generalizing n with
  | zero => simp [natBytes, readNat]; omega
  | succ k ih =>
    have hdiv : n / 256 < 256 ^ k := by rw [Nat.div_lt_iff_lt_mul (by omega)]; rwa [Nat.pow_succ] at h
    simp [natBytes, readNat, ih _ hdiv]; omega

theorem readNat_four {n : Nat} (h : n < 2 ^ 32) (r : List Byte) : readNat 4 (natBytes 4 n ++ r) = some (n, r) :=
  readNat_natBytes 4 n r (by omega)

theorem readNat_eight {n : Nat} (h : n < 2 ^ 64) (r : List Byte) : readNat 8 (natBytes 8 n ++ r) = some (n, r) :=
  readNat_natBytes 8 n r (by omega)

@[simp] theorem readBytes_append (data r : List Byte) : readBytes data.length (data ++ r) = some (data, r) := by
  simp [readBytes]

@[simp] theorem readMode_byte (m : ConnMode) (r : List Byte) : readMode (m.byte :: r) = some (m, r) := by
  cases m <;> rfl

@[simp] theorem readAddrMode_byte (m : AddrMode) (r : List Byte) : readAddrMode (m.byte :: r) = some (m, r) := by
  cases m <;> rfl

@[simp] theorem readFlag_flagByte (b : Bool) (r : List Byte) : readFlag (flagByte b :: r) = some (b, r) := by
  cases b <;> rfl

@[simp] theorem readWhich_byte (w : WhichTiming) (r : List Byte) : readWhich (w.byte :: r) = some (w, r) := by
  cases w <;> rfl

@[simp] theorem readByte_cons (b : Byte) (r : List Byte) : readByte (b :: r) = some (b, r) := rfl

@[simp] theorem readOptByte_optBytes (o : Option Byte) (r : List Byte) :
    readOptByte (optBytes o ++ r) = some (o, r) := by
  cases o <;> rfl

theorem readTiming_bytes {t : TimingSet} (h : t.fits = true) (r : List Byte) :
    readTiming (t.bytes ++ r) = some (t, r) := by
  obtain ⟨h1, h2, h3, h4, h5, h6⟩ := t.fits_iff.mp h
  simp [readTiming, TimingSet.bytes, readNat_four h1, readNat_four h2, readNat_four h3, readNat_four h4,
    readNat_four h5, readNat_four h6]

theorem readMessage_bytes {m : Message} (hr : m.maxRetries < 2 ^ 64) (hd : m.data.length < 2 ^ 32) (r : List Byte) :
    readMessage (m.bytes ++ r) = some (m, r) := by
  simp [readMessage, Message.bytes, readNat_eight hr, readNat_four hd]

theorem readElement_index (e : Element) (r : List Byte) :
    readElement (BitVec.ofNat 8 e.index :: r) = some (e, r) := by
  cases e <;> rfl

/-- The ten slots give the seven bits back (R125). -/
theorem decodeChar5_levels5 (a : BitVec 7) :
    decodeChar5 (BitVec.ofNat 8 (packBits (levels5 a))) (BitVec.ofNat 8 (packBits (levels5 a) / 256))
      = some (.addr5 a) := by
  revert a; decide

theorem decodeKey1_byte (p t u h b : Bool) (x : BitVec 2) :
    decodeKey1 (BitVec.ofBool p ++ 1#1 ++ BitVec.ofBool t ++ BitVec.ofBool u ++ BitVec.ofBool h ++ BitVec.ofBool b ++ x)
      = some (.kb1 p t u h b x) := by
  revert p t u h b x; decide

/-! One lemma per format: the item is read back and what stands behind it stays. -/

section
variable (r : List Byte)

theorem decode_header {i : Instr} (hp : i.port = .header) (h : i.wf = true) :
    decode i.port (encode i ++ r) = .ok (i, r) := by
  cases i <;> simp only [Instr.port, reduceCtorEq] at hp
  case h1x | h3px | h3fx => rfl
  case h1i l | hrv l | h3pi l | h3fi l =>
    simp [Instr.wf] at h
    simp [Instr.port, encode, decode, decodeHeader_append, h]

theorem decode_service {i : Instr} {d : Dir} (hp : i.port = .service d) (h : i.wf = true) :
    decode i.port (encode i ++ r) = .ok (i, r) := by
  cases i <;> simp only [Instr.port, Port.service.injEq, reduceCtorEq] at hp
  case anyResponse b d' | anyRequest b d' =>
    simp [Instr.wf] at h
    simp [Instr.port, encode, decode, decodeSid_of_not_named, h]
  all_goals rfl

theorem decode_code {i : Instr} (hp : i.port = .code) (h : i.wf = true) :
    decode i.port (encode i ++ r) = .ok (i, r) := by
  cases i <;> simp only [Instr.port, reduceCtorEq] at hp
  case responsePending | busyRepeatRequest => rfl
  case otherCode c =>
    simp [Instr.wf] at h
    simp [Instr.port, encode, decode, decodeCode, h]

theorem decode_command {i : Instr} (hp : i.port = .command) (h : i.wf = true) :
    decode i.port (encode i ++ r) = .ok (i, r) := by
  cases i <;> simp only [Instr.port, reduceCtorEq] at hp
  case disconnect | terminate | resetTiming => rfl
  case connect mode addr second attempts =>
    simp [Instr.wf] at h
    simp [Instr.port, encode, decode, decodeCommand, readNat_eight h]
  case enqueue m probe =>
    simp [Instr.wf] at h
    simp [Instr.port, encode, decode, decodeCommand, readMessage_bytes h.1 h.2]
  case setTiming which tp => simp [Instr.port, encode, decode, decodeCommand, readTiming_bytes h]
  case setBaud rate => simp [Instr.port, encode, decode, decodeCommand, readNat_four rate.isLt]
  case readStatus e => simp [Instr.port, encode, decode, decodeCommand, readElement_index]
  case unassigned c =>
    have hc : c ≠ 0x01#8 ∧ c ≠ 0x02#8 ∧ c ≠ 0x03#8 ∧ c ≠ 0x04#8 ∧ c ≠ 0x05#8 ∧ c ≠ 0x06#8 ∧ c ≠ 0x07#8
        ∧ c ≠ 0x08#8 := by
      simp [Instr.wf] at h
      bv_omega
    simp [Instr.port, encode, decode, decodeCommand, hc]

/-- Settles O1: format by format, the handshake items each by its own reader. -/
theorem decodeOfEncode : Obligations.DecodeOfEncode := by
  intro i r h
  cases hp : i.port
  case header => rw [← hp]; exact decode_header r hp h
  case service d => rw [← hp]; exact decode_service r hp h
  case code => rw [← hp]; exact decode_code r hp h
  case command => rw [← hp]; exact decode_command r hp h
  all_goals cases i <;> simp only [Instr.port, reduceCtorEq] at hp
  case sync | complement | addrComplement | wakeup => rfl
  case char5.addr5 a => simp [encode, natBytes, decode, decodeChar5_levels5]
  case key1.kb1 p t u hb b x => simp [encode, decode, decodeKey1_byte]
  case key2.kb2 p x =>
    have hx : BitVec.extractLsb' 0 7 (BitVec.ofBool p ++ x) = x := BitVec.extractLsb'_append_eq_right
    have hb : (BitVec.ofBool p ++ x).getLsbD 7 = p := by rw [BitVec.getLsbD_append]; simp
    change Except.ok
      (Instr.kb2 ((BitVec.ofBool p ++ x).getLsbD 7) (BitVec.extractLsb' 0 7 (BitVec.ofBool p ++ x)), r) = _
    rw [hx, hb]

end

/-- Settles O2: each word by evaluation of the decoder. -/
theorem decodeSanityWords : Obligations.DecodeSanityWords := by
  exact ⟨rfl, rfl, rfl, rfl, rfl, rfl, rfl, rfl, rfl, rfl, rfl, rfl, rfl, rfl, rfl, rfl, rfl⟩

end Sys2Proof

namespace Sys2Proof.Machine

/-! ### Dispatch of a received message (R270 to R282) -/

/-- A message of the dispatch with the service id `b` of its row. -/
theorem accepted_eq_false {c : Config} {m : Message}
    (h : m.mode = .functional ∨ (m.mode = .physical ∧ m.dst ≠ c.testerAddr) ∨ m.sid.getLsbD 6 = false) :
    accepted c m = false := by
  rcases h with h | ⟨hm, hd⟩ | h
  · simp [accepted, h]
  · simp [accepted, hm, hd]
  · have hreq : isResponse m.sid = false := h
    simp [accepted, hreq]

theorem State.outstanding_of_not_expecting {s : State} (h : s.expecting = false) : s.outstanding = none := by
  simp [State.outstanding, h]

/-- The counting of an unmatched response (R273): below the fifth it is only reported. -/
theorem State.unsolicitedMsg_eq (s : State) (m : Message) :
    s.unsolicitedMsg m =
      if s.unsolicited + 1 < 5 then
        { s with unsolicited := s.unsolicited + 1, events := s.events ++ [.unsolicitedResponse m] }
      else ({ s with unsolicited := s.unsolicited + 1, events := s.events ++ [.unsolicitedResponse m] } :
        State).forceDisconnect .unsolicited := by
  unfold State.unsolicitedMsg
  rw [← ite_not]
  exact if_congr not_le rfl rfl

/-- Settles O17. -/
theorem unacceptableMessageIsIgnored : Obligations.UnacceptableMessageIsIgnored := by
  intro i b s hi h
  rw [exec_of_service_rx s hi, s.dispatch_of_not_accepted _ (accepted_eq_false h)]
  rfl

/-- Settles O18: both grounds on which a response is unmatched lead to `unsolicitedMsg`. -/
theorem unsolicitedResponseCounts : Obligations.UnsolicitedResponseCounts := by
  intro i b s hi hacc h
  have hdispatch : s.dispatch { s.frame with sid := b } = (s.goto .start).unsolicitedMsg { s.frame with sid := b } := by
    by_cases hexp : s.expecting = true
    · obtain hno | ⟨e, q, hq, hpos, hneg⟩ := h
      · simp [hexp] at hno
      · exact s.dispatch_of_unmatched _ e hacc (s.outstanding_of_expecting hexp hq) hpos hneg
    · exact s.dispatch_of_no_request _ hacc (State.outstanding_of_not_expecting (by simpa using hexp))
  rw [exec_of_service_rx s hi, hdispatch, State.unsolicitedMsg_eq]
  split
  · next hlt => rw [if_pos (show (s.goto .start).unsolicited + 1 < 5 from hlt)]; rfl
  · next hlt => rw [if_neg (show ¬(s.goto .start).unsolicited + 1 < 5 from hlt)]; rfl

section
variable {i : Instr} {b : Byte} {s : State} {e : Entry} {q : List Entry}

/-- The positive response to the outstanding request, of any row (R274, R276). -/
theorem exec_positive (hi : i.service = some (b, .rx)) (hacc : accepted s.cfg { s.frame with sid := b } = true)
    (hexp : s.expecting = true) (hq : s.txq = e :: q) (hpos : b = e.msg.sid ||| 0x40#8) :
    exec i s = .next (s.answered.positive { s.frame with sid := b } e) := by
  rw [exec_of_service_rx s hi, s.dispatch_of_positive _ e hacc (s.outstanding_of_expecting hexp hq) hpos]
  rfl

/-- A negative response that names the outstanding request, of any row (R274, R275). -/
theorem exec_negative (hi : i.service = some (b, .rx)) (hacc : accepted s.cfg { s.frame with sid := b } = true)
    (hexp : s.expecting = true) (hq : s.txq = e :: q) (hpos : b ≠ e.msg.sid ||| 0x40#8) (hneg : b = s.cfg.sidNegResp)
    (hdata : s.frame.data.head? = some e.msg.sid) :
    exec i s = .next (s.answered.negative { s.frame with sid := b } e) := by
  rw [exec_of_service_rx s hi,
    s.dispatch_of_negative _ e hacc (s.outstanding_of_expecting hexp hq) hpos hneg hdata]
  rfl

/-- Without a response code the negative response is uninterpreted (R123, R275). -/
theorem exec_negative_without_code (hi : i.service = some (b, .rx))
    (hacc : accepted s.cfg { s.frame with sid := b } = true)
    (hexp : s.expecting = true) (hq : s.txq = e :: q) (hpos : b ≠ e.msg.sid ||| 0x40#8) (hneg : b = s.cfg.sidNegResp)
    (hdata : s.frame.data = [e.msg.sid]) :
    exec i s = .next (s.answered.negativeOther { s.frame with sid := b } e.msg) := by
  rw [exec_negative hi hacc hexp hq hpos hneg (by simp [hdata])]
  simp [State.negative, hdata]

/-- A response code the block does not interpret (R275, R281, R282). -/
theorem exec_otherCode {c : Byte} (hi : i.responseCode = some c) (hq : s.txq = e :: q)
    (hpend : c ≠ s.cfg.rcResponsePending) (hbusy : c ≠ s.cfg.rcBusy) :
    exec i s = .next ((s.goto .start).negativeOther s.frame e.msg) := by
  rw [exec_of_responseCode s hi, s.responseCode_cons hq, if_neg hpend, if_neg hbusy]

end

/-! The branches of `positive` (R276 to R278) and of the uninterpreted codes (R281, R282), each under its own
condition. -/

section
variable (s : State) {m req : Message} {e : Entry}

theorem State.positive_startComm (h : e.msg.sid = s.cfg.sidStartComm) :
    s.positive m e = ((({ s with respCount := s.respCount + 1 } : State).captureKeys m).fastConnected).deliver m e := by
  simp [State.positive, h]

theorem State.positive_stopComm (h : e.msg.sid ≠ s.cfg.sidStartComm) (h' : e.msg.sid = s.cfg.sidStopComm) :
    s.positive m e
      = (({ s with respCount := s.respCount + 1 } : State).deliver m e).enterDisconnected .cleanDisconnect := by
  simp only [State.positive, if_neg h, if_pos h']

theorem State.positive_other (h : e.msg.sid ≠ s.cfg.sidStartComm) (h' : e.msg.sid ≠ s.cfg.sidStopComm) :
    s.positive m e = { s with
      respCount := s.respCount + 1
      events := if e.msg.sid = s.cfg.sidTesterPresent then s.events
        else s.events ++ [.messageReceived m e.msg] } := by
  simp only [State.positive, if_neg h, if_neg h']
  split <;> rfl

theorem State.negativeOther_startComm (h : req.sid = s.cfg.sidStartComm) :
    s.negativeOther m req = s.forceDisconnect .startCommRejected := by
  simp [State.negativeOther, h]

theorem State.negativeOther_testerPresent (h : req.sid ≠ s.cfg.sidStartComm) (h' : req.sid = s.cfg.sidTesterPresent) :
    s.negativeOther m req = { s with respCount := s.respCount + 1 } := by
  simp only [State.negativeOther, if_neg h, if_pos h']

theorem State.negativeOther_stopComm (h : req.sid ≠ s.cfg.sidStartComm) (h' : req.sid ≠ s.cfg.sidTesterPresent)
    (h'' : req.sid = s.cfg.sidStopComm) : s.negativeOther m req = s.forceDisconnect .stopCommRejected := by
  simp only [State.negativeOther, if_neg h, if_neg h', if_pos h'']

theorem State.negativeOther_unowned (h : ownedSid s.cfg req.sid = false) :
    s.negativeOther m req = { s with
      respCount := s.respCount + 1, events := s.events ++ [.messageReceived m req] } := by
  simp only [ownedSid, Bool.or_eq_false_iff, beq_eq_false_iff_ne] at h
  obtain ⟨⟨hstart, hstop⟩, htp⟩ := h
  simp only [State.negativeOther, if_neg hstart, if_neg hstop, if_neg htp]
  rfl

end

/-- The key bytes come from the first two data bytes, if there are two (R277, R124). -/
theorem State.captureKeys_eq (s : State) (m : Message) :
    s.captureKeys m = { s with
      keyByte1 := if 2 ≤ m.data.length then m.data.getD 0 0#8 &&& 0x7F#8 else s.keyByte1
      keyByte2 := if 2 ≤ m.data.length then m.data.getD 1 0#8 &&& 0x7F#8 else s.keyByte2
      keyValid := if 2 ≤ m.data.length then true else s.keyValid } := by
  unfold State.captureKeys
  split
  · next hd => simp [hd, maskKey]
  · next h =>
    have hlt : ¬2 ≤ m.data.length := by
      intro hle
      match hd : m.data, hle with
      | k1 :: k2 :: r, _ => exact h k1 k2 r hd
    simp [hlt]

/-- A fast-init in progress succeeds; elsewhere nothing changes (R277). -/
theorem State.fastConnected_eq (s : State) :
    s.fastConnected = { s with
      commAddr := if s.connState = .connectionPending then s.hsAddr else s.commAddr
      attemptsLeft := if s.connState = .connectionPending then 0 else s.attemptsLeft
      connState := if s.connState = .connectionPending then .connected else s.connState
      swP3 := if s.connState = .connectionPending then ⟨true, 0⟩ else s.swP3
      events := s.events
        ++ (if s.connState = .connectionPending then [.connStateChanged .connectionPending .connected] else []) } := by
  by_cases h : s.connState = .connectionPending <;> simp [State.fastConnected, State.raise, Stopwatch.restart, h]

theorem State.deliver_eq (s : State) (m : Message) (e : Entry) :
    s.deliver m e = { s with events := s.events ++ (if e.internal then [] else [.messageReceived m e.msg]) } := by
  cases h : e.internal <;> simp [State.deliver, State.raise, h]

/-- Settles O19. -/
theorem positiveResponseIsForwarded : Obligations.PositiveResponseIsForwarded := by
  intro i b s e q hi hacc hexp hq hpos hstart hstop
  rw [exec_positive hi hacc hexp hq hpos, s.answered.positive_other hstart hstop]
  rfl

/-- Settles O20. -/
theorem startCommunicationPositiveConnects : Obligations.StartCommunicationPositiveConnects := by
  intro i b s e q hi hacc hexp hq hpos hstart
  rw [exec_positive hi hacc hexp hq hpos, s.answered.positive_startComm hstart, State.captureKeys_eq,
    State.fastConnected_eq, State.deliver_eq]
  rfl

/-- Settles O21. -/
theorem stopCommunicationPositiveDisconnects : Obligations.StopCommunicationPositiveDisconnects := by
  intro i b s e q hi hacc hexp hq hpos hstart hstop
  rw [exec_positive hi hacc hexp hq hpos, s.answered.positive_stopComm hstart hstop, State.deliver_eq]
  rfl

/-- Settles O22. -/
theorem negativeResponseGoesToItsCode : Obligations.NegativeResponseGoesToItsCode := by
  intro i b c ds s e q hi hacc hexp hq hpos hneg hdata
  rw [exec_negative hi hacc hexp hq hpos hneg (by simp [hdata])]
  simp [State.negative, hdata]

/-- Settles O23. -/
theorem responsePendingExtendsTheWait : Obligations.ResponsePendingExtendsTheWait := by
  intro i c s hi hpend
  rw [exec_of_responseCode s hi, State.responseCode, if_pos (show c = (s.goto .start).cfg.rcResponsePending from hpend)]
  rfl

/-- Settles O24. -/
theorem busyGivesTheAttemptBack : Obligations.BusyGivesTheAttemptBack := by
  intro i c s e q hi hpend hbusy hq
  rw [exec_of_responseCode s hi, s.responseCode_cons hq, if_neg hpend, if_pos hbusy]
  rfl

/-- Settles O25: with a code and without one the same branch of the uninterpreted codes. -/
theorem otherNegativeResponseIsForwarded : Obligations.OtherNegativeResponseIsForwarded := by
  intro i c s e q hq hown
  refine ⟨fun hi hpend hbusy => ?_, fun hi hacc hexp hpos hneg hdata => ?_⟩
  · rw [exec_otherCode hi hq hpend hbusy, (s.goto .start).negativeOther_unowned hown]; rfl
  · rw [exec_negative_without_code hi hacc hexp hq hpos hneg hdata, s.answered.negativeOther_unowned hown]; rfl

/-- Settles O26: with a code and without one the next state is `negativeOther` of the same state. -/
theorem ownedServiceRejected : Obligations.OwnedServiceRejected := by
  intro i c s t e q hq h
  obtain ⟨m, hexec, hcfg, hcount⟩ : ∃ m, exec i s = .next (t.negativeOther m e.msg) ∧ t.cfg = s.cfg
      ∧ t.respCount = s.respCount := by
    rcases h with ⟨hi, hpend, hbusy, rfl⟩ | ⟨hi, hacc, hexp, hpos, hneg, hdata, rfl⟩
    · exact ⟨s.frame, exec_otherCode hi hq hpend hbusy, rfl, rfl⟩
    · exact ⟨_, exec_negative_without_code hi hacc hexp hq hpos hneg hdata, rfl, rfl⟩
  rw [hexec, ← hcfg, ← hcount]
  refine ⟨fun hstart => ?_, fun hstart htp => ?_, fun hstart htp hstop => ?_⟩
  · rw [t.negativeOther_startComm hstart]
  · rw [t.negativeOther_testerPresent hstart htp]
  · rw [t.negativeOther_stopComm hstart htp hstop]

/-! ### Transmission of the head of the queue (R286, R289, R385) -/

/-- A frame taken whole completes the transmission (R286). -/
theorem State.sent_of_whole (s : State) (e : Entry) (q : List Entry) (f : List Byte) :
    s.sent e q f f.length = (s.transmitted e q f).afterSend true := by
  simp [State.sent, State.transmitted, State.raise, Stopwatch.restart]

/-- A write that stops short of the frame charges the attempt and is reported (R289). -/
theorem State.sent_of_short (s : State) (e : Entry) (q : List Entry) {f : List Byte} {n : Nat} (h : n < f.length) :
    s.sent e q f n = ({ s with
      txq := { e with attempts := e.attempts + 1 } :: q
      events := s.events ++ [.transportError .write n] } : State).afterSend false := by
  simp [State.sent, State.raise, h.ne]

theorem State.afterSend_of_pipeline {s : State} (h : s.hsStep ≠ .f5) (ok : Bool) : s.afterSend ok = s.asleep := by
  simp only [State.afterSend, if_neg h]
  rfl

theorem State.lineWrite_eq_wrote (s : State) (bs : List Byte) : s.lineWrite bs = s.wrote bs (s.writeCount bs) := rfl

theorem State.writeCount_one {s : State} (h : s.env.writeCap ≠ some 0) (b : Byte) : s.writeCount [b] = 1 := by
  cases hc : s.env.writeCap with
  | none => simp [State.writeCount, hc]
  | some c =>
    have : c ≠ 0 := fun h0 => h (by rw [hc, h0])
    simp [State.writeCount, hc]; omega

theorem State.writeCount_zero {s : State} (h : s.env.writeCap = some 0) (b : Byte) : s.writeCount [b] = 0 := by
  simp [State.writeCount, h]

section
variable {i : Instr} {s : State} {e : Entry} {q : List Entry} {f : List Byte}

/-- The transmission of the head entry's frame by any row, whole or byte by byte (R286, R385). -/
theorem exec_transmit (hi : i.service = some (e.msg.sid, .tx)) (hq : s.txq = e :: q) (hf : serialize e.msg = some f) :
    exec i s = if s.cfg.txPaceP4 then .next (s.sendPaced e q f)
      else .next ((s.lineWrite f).sent e q f (s.writeCount f)) := by
  rw [exec_of_service_tx s hi, s.transmit_cons hq hf]

theorem exec_transmit_whole (hi : i.service = some (e.msg.sid, .tx)) (hq : s.txq = e :: q)
    (hf : serialize e.msg = some f) (hpace : s.cfg.txPaceP4 = false)
    (hcap : s.env.writeCap = none ∨ ∃ c, s.env.writeCap = some c ∧ f.length ≤ c) :
    exec i s = .next (((s.transmitted e q f).wrote f f.length).afterSend true) := by
  rw [exec_transmit hi hq hf, hpace, s.writeCount_full f hcap, State.sent_of_whole, State.lineWrite_eq_wrote,
    s.writeCount_full f hcap]
  rfl

theorem exec_transmit_short {n : Nat} (hi : i.service = some (e.msg.sid, .tx)) (hq : s.txq = e :: q)
    (hf : serialize e.msg = some f) (hpace : s.cfg.txPaceP4 = false) (hcap : s.env.writeCap = some n)
    (hn : n < f.length) :
    exec i s = .next ((({ s with
      txq := { e with attempts := e.attempts + 1 } :: q
      events := s.events ++ [.transportError .write n] } : State).wrote f n).afterSend false) := by
  rw [exec_transmit hi hq hf, hpace, s.writeCount_short f n hcap hn, State.sent_of_short _ _ _ hn,
    State.lineWrite_eq_wrote, s.writeCount_short f n hcap hn]
  rfl

/-- The position gives how many bytes of a paced frame are out (R385). -/
theorem Micro.paced_eq {m : Micro} {k : Nat} (h : m = .send ∧ k = 0 ∨ ∃ t, m = .pace k t) : m.paced = k := by
  rcases h with ⟨rfl, rfl⟩ | ⟨t, rfl⟩ <;> rfl

variable {k : Nat}

theorem exec_paced_byte (hi : i.service = some (e.msg.sid, .tx)) (hq : s.txq = e :: q)
    (hf : serialize e.msg = some f) (hpace : s.cfg.txPaceP4 = true)
    (hm : s.micro = .send ∧ k = 0 ∨ ∃ t, s.micro = .pace k t) (hcap : s.env.writeCap ≠ some 0)
    (hk : k + 1 < f.length) :
    exec i s = .next { s.wrote [f.getD k 0#8] 1 with
      micro := .pace (k + 1) (s.env.now + 1000 * s.tpCurrent.p4min) } := by
  rw [exec_transmit hi hq hf, if_pos hpace]
  simp only [State.sendPaced, Micro.paced_eq hm, State.writeCount_one hcap, State.lineWrite_eq_wrote, one_ne_zero,
    if_false, if_neg (not_le.mpr hk)]
  rfl

theorem exec_paced_last (hi : i.service = some (e.msg.sid, .tx)) (hq : s.txq = e :: q)
    (hf : serialize e.msg = some f) (hpace : s.cfg.txPaceP4 = true)
    (hm : s.micro = .send ∧ k = 0 ∨ ∃ t, s.micro = .pace k t) (hcap : s.env.writeCap ≠ some 0)
    (hk : k + 1 = f.length) :
    exec i s = .next (((s.transmitted e q f).wrote [f.getD k 0#8] 1).afterSend true) := by
  rw [exec_transmit hi hq hf, if_pos hpace]
  simp only [State.sendPaced, Micro.paced_eq hm, State.writeCount_one hcap, State.lineWrite_eq_wrote, one_ne_zero,
    if_false, if_pos hk.ge]
  rw [hk, State.sent_of_whole]
  rfl

theorem exec_paced_cut (hi : i.service = some (e.msg.sid, .tx)) (hq : s.txq = e :: q)
    (hf : serialize e.msg = some f) (hpace : s.cfg.txPaceP4 = true)
    (hm : s.micro = .send ∧ k = 0 ∨ ∃ t, s.micro = .pace k t) (hcap : s.env.writeCap = some 0)
    (hk : k < f.length) :
    exec i s = .next ((({ s with
      txq := { e with attempts := e.attempts + 1 } :: q
      events := s.events ++ [.transportError .write k] } : State).wrote [f.getD k 0#8] 0).afterSend false) := by
  rw [exec_transmit hi hq hf, if_pos hpace]
  simp only [State.sendPaced, Micro.paced_eq hm, State.writeCount_zero hcap, State.lineWrite_eq_wrote, if_true,
    State.sent_of_short _ _ _ hk]
  rfl

end

/-- Settles O27. -/
theorem headFrameIsTransmitted : Obligations.HeadFrameIsTransmitted := by
  intro i s e q f hi hq hf hpace hhs hcap
  rw [exec_transmit_whole hi hq hf hpace hcap, State.afterSend_of_pipeline (by exact hhs)]

/-- Settles O28. -/
theorem shortWriteOnlyChargesTheAttempt : Obligations.ShortWriteOnlyChargesTheAttempt := by
  intro i s e q f n hi hq hf hpace hhs hcap hn
  rw [exec_transmit_short hi hq hf hpace hcap hn, State.afterSend_of_pipeline (by exact hhs)]

/-- Settles O30. -/
theorem pacedFrameGoesByteByByte : Obligations.PacedFrameGoesByteByByte := by
  intro i s e q f k hi hq hf hpace hhs hm
  refine ⟨fun hcap hk => exec_paced_byte hi hq hf hpace hm hcap hk, fun hcap hk => ?_, fun hcap hk => ?_⟩
  · rw [exec_paced_last hi hq hf hpace hm hcap hk, State.afterSend_of_pipeline (by exact hhs)]
  · rw [exec_paced_cut hi hq hf hpace hm hcap hk, State.afterSend_of_pipeline (by exact hhs)]

/-! ### Step F5 (R235) -/

/-- In step F5 a transmission ends the handshake steps, or fails the run. -/
theorem State.afterSend_of_f5 {s : State} (h : s.hsStep = .f5) (ok : Bool) :
    s.afterSend ok = if ok then { s with hsStep := .idle, micro := .test } else s.hsFail .transport := by
  simp only [State.afterSend, if_pos h]

/-- A request the block builds itself has zero addresses in mode None (R21, R235, R285, R313). -/
theorem ownRequest_eq (mode : AddrMode) (dst src sid : Byte) :
    ownRequest mode dst src sid = {
      mode := mode
      src := if mode = .none then 0#8 else src
      dst := if mode = .none then 0#8 else dst
      sid := sid, data := [], maxRetries := 0 } := by
  unfold ownRequest
  split
  · next h => rw [h]
  · rfl

theorem seqStep_f5Push {s : State} (hp : s.phase = .a) (hs : s.hsStep = .f5) (hm : s.micro = .start) :
    seqStep s = .next s.f5Push := by
  have hf : s.fetch = none := by simp [State.fetch, State.hsItem, hp, hs, hm]
  simp [seqStep_of_no_item hf, State.internal, State.hsInternal, hp, hs, hm]

/-- Settles O29: the push by the room in the queue, the transmission as in phase E with the end of step F5. -/
theorem fastInitRequestIsSent : Obligations.FastInitRequestIsSent := by
  refine ⟨fun s hp hs hm => ⟨fun hroom => ?_, fun hfull => ?_⟩, fun i s e q f hi hq hf hs =>
    ⟨fun hpace => ⟨fun hcap => ?_, fun n hcap hn => ?_⟩,
      fun k hpace hm => ⟨fun hcap hk => ?_, fun hcap hk => ?_, fun hcap hk => ?_⟩⟩⟩
  · rw [seqStep_f5Push hp hs hm, State.f5Push, s.txqPushHead_of_room _ hroom, startCommRequest, ownRequest_eq]
    rfl
  · rw [seqStep_f5Push hp hs hm, State.f5Push, s.txqPushHead_of_full _ hfull]
  · rw [exec_transmit_whole hi hq hf hpace hcap, State.afterSend_of_f5 (by exact hs)]
    rfl
  · rw [exec_transmit_short hi hq hf hpace hcap hn, State.afterSend_of_f5 (by exact hs)]
    rfl
  · exact exec_paced_byte hi hq hf hpace hm hcap hk
  · rw [exec_paced_last hi hq hf hpace hm hcap hk, State.afterSend_of_f5 (by exact hs)]
    rfl
  · rw [exec_paced_cut hi hq hf hpace hm hcap hk, State.afterSend_of_f5 (by exact hs)]
    rfl

end Sys2Proof.Machine

namespace Sys2Proof.Machine

/-! ### The entry to Disconnected (R345, R346) -/

theorem failEvents_eq (q : List Entry) :
    failEvents q = (q.filter fun e => !e.internal).map fun e => Event.messageFinished e.msg .failed e.attempts := by
  induction q with
  | nil => rfl
  | cons e q ih => cases h : e.internal <;> simp [failEvents, h, ih]

theorem State.enterDisconnected_of_down {s : State} (h : s.connState = .disconnected) (c : EntryCause) :
    s.enterDisconnected c = s := by
  simp [State.enterDisconnected, h]

theorem State.enterDisconnected_of_live {s : State} (h : s.connState ≠ .disconnected) (c : EntryCause) :
    s.enterDisconnected c = s.cleared := by
  simp only [State.enterDisconnected, if_neg h]
  rfl

/-- A forced disconnect reports its cause first (R345). -/
theorem State.forceDisconnect_of_live {s : State} (h : s.connState ≠ .disconnected) (d : ForcedCause) :
    s.forceDisconnect d = ({ s with events := s.events ++ [.forcedDisconnect d] } : State).cleared :=
  State.enterDisconnected_of_live (s := s.raise (.forcedDisconnect d)) h .forced

/-- A failed run of the handshake, read as one update (R237). -/
theorem State.hsFail_of_live {s : State} (h : s.connState ≠ .disconnected) (c : HsCause) :
    s.hsFail c = { ({ s.called (.setBreak false) with
        breakOut := false, events := s.events ++ [.handshakeFailed c] } : State).cleared with
      hsStep := .idle, micro := .test } := by
  rw [State.hsFail, State.enterDisconnected_of_live (by exact h)]
  rfl

/-- Settles O50. -/
theorem disconnectEntryClears : Obligations.DisconnectEntryClears :=
  ⟨failEvents_eq, fun _ c d => ⟨fun h => State.enterDisconnected_of_down h c,
    fun h => State.enterDisconnected_of_live h c, fun h => State.forceDisconnect_of_live h d⟩⟩

/-- Settles O40. -/
theorem failedRunClearsEverything : Obligations.FailedRunClearsEverything :=
  fun _ c h => State.hsFail_of_live (by simp [h]) c

/-! ### The sequencer in phase A

One equation for each position: which micro-step stands there (R211 to R235). -/

section
variable {s : State}

theorem fetch_handshake (hp : s.phase = .a) (hsend : s.micro.sending = false) : s.fetch = s.hsItem := by
  cases hm : s.micro <;> simp [hm, Micro.sending] at hsend <;> simp [State.fetch, hp, hm]

theorem internal_handshake (hp : s.phase = .a) (hidle : s.hsStep ≠ .idle) (htest : s.micro ≠ .test)
    (hsend : s.micro.sending = false) : s.internal = s.hsInternal := by
  cases hm : s.micro <;> simp [hm, Micro.sending] at hsend htest <;> simp [State.internal, hp, hm, hidle]

/-- A handshake step that meets no encoded item is an internal micro-step. -/
theorem seqStep_handshake {h : HsStep} {m : Micro} (hp : s.phase = .a) (hs : s.hsStep = h) (hm : s.micro = m)
    (hidle : h ≠ .idle) (htest : m ≠ .test) (hsend : m.sending = false) (hitem : s.hsItem = none) :
    seqStep s = s.hsInternal := by
  subst hs hm
  rw [seqStep_of_no_item ((fetch_handshake hp hsend).trans hitem), internal_handshake hp hidle htest hsend]

/-- What stands at the place of an item but is none ends in the internal micro-step of the position. -/
theorem seqStep_handshake_undecoded {h : HsStep} {m : Micro} {p : Port} {bs : List Byte} {x : DecodeError}
    (hp : s.phase = .a) (hs : s.hsStep = h) (hm : s.micro = m)
    (hidle : h ≠ .idle) (htest : m ≠ .test) (hsend : m.sending = false) (hitem : s.hsItem = some (p, bs))
    (hd : decode p bs = .error x) : seqStep s = s.hsInternal := by
  subst hs hm
  rw [seqStep_of_undecoded ((fetch_handshake hp hsend).trans hitem) hd, internal_handshake hp hidle htest hsend]

/-- A handshake step that meets an encoded item runs it. -/
theorem seqStep_handshake_item {p : Port} {bs r : List Byte} {i : Instr} (hp : s.phase = .a)
    (hsend : s.micro.sending = false) (hitem : s.hsItem = some (p, bs)) (hd : decode p bs = .ok (i, r)) :
    seqStep s = exec i s :=
  seqStep_of_item ((fetch_handshake hp hsend).trans hitem) hd

section
variable (hp : s.phase = .a)
include hp

theorem seqStep_s0_start (hs : s.hsStep = .s0) (hm : s.micro = .start) : seqStep s = .next s.s0Begin := by
  rw [seqStep_handshake hp hs hm] <;> simp [State.hsItem, State.hsInternal, Micro.sending, hs, hm]

theorem seqStep_s0_wait {t : Nat} (hs : s.hsStep = .s0) (hm : s.micro = .wait t) :
    seqStep s = .next (s.toStep .s1) := by
  rw [seqStep_handshake hp hs hm] <;> simp [State.hsItem, State.hsInternal, Micro.sending, hs, hm]

theorem seqStep_s2_start (hs : s.hsStep = .s2) (hm : s.micro = .start) : seqStep s = .next s.s2Purge := by
  rw [seqStep_handshake hp hs hm] <;> simp [State.hsItem, State.hsInternal, Micro.sending, hs, hm]

theorem seqStep_s3_start (hs : s.hsStep = .s3) (hm : s.micro = .start) :
    seqStep s = .next (s.beginRead 1 s.cfg.syncTimeout) := by
  rw [seqStep_handshake hp hs hm] <;> simp [State.hsItem, State.hsInternal, Micro.sending, hs, hm]

theorem seqStep_s4_start (hs : s.hsStep = .s4) (hm : s.micro = .start) : seqStep s = .next s.s4Begin := by
  rw [seqStep_handshake hp hs hm] <;> simp [State.hsItem, State.hsInternal, Micro.sending, hs, hm]

theorem seqStep_s4_read {n t : Nat} (hs : s.hsStep = .s4) (hm : s.micro = .read n t) :
    seqStep s = .next s.s4Read := by
  rw [seqStep_handshake hp hs hm] <;> simp [State.hsItem, State.hsInternal, Micro.sending, hs, hm]

theorem seqStep_s4_reread {n t : Nat} (hs : s.hsStep = .s4) (hm : s.micro = .reread n t) :
    seqStep s = .next (s.s4Last n) := by
  rw [seqStep_handshake hp hs hm] <;> simp [State.hsItem, State.hsInternal, Micro.sending, hs, hm]

theorem seqStep_s5_start (hs : s.hsStep = .s5) (hm : s.micro = .start) : seqStep s = .next s.s5Begin := by
  rw [seqStep_handshake hp hs hm] <;> simp [State.hsItem, State.hsInternal, Micro.sending, hs, hm]

theorem seqStep_s6_start (hs : s.hsStep = .s6) (hm : s.micro = .start) :
    seqStep s = .next (s.beginWait s.cfg.w4Delay) := by
  rw [seqStep_handshake hp hs hm] <;> simp [State.hsItem, State.hsInternal, Micro.sending, hs, hm]

theorem seqStep_s6_read {n t : Nat} (hs : s.hsStep = .s6) (hm : s.micro = .read n t) :
    seqStep s = .next s.s6Echo := by
  rw [seqStep_handshake hp hs hm] <;> simp [State.hsItem, State.hsInternal, Micro.sending, hs, hm]

theorem seqStep_s7_start (hs : s.hsStep = .s7) (hm : s.micro = .start) :
    seqStep s = .next (s.beginRead 1 s.cfg.complTimeout) := by
  rw [seqStep_handshake hp hs hm] <;> simp [State.hsItem, State.hsInternal, Micro.sending, hs, hm]

theorem seqStep_s8_start (hs : s.hsStep = .s8) (hm : s.micro = .start) : seqStep s = .next s.s8Success := by
  rw [seqStep_handshake hp hs hm] <;> simp [State.hsItem, State.hsInternal, Micro.sending, hs, hm]

theorem seqStep_sLegacy_start (hs : s.hsStep = .sLegacy) (hm : s.micro = .start) :
    seqStep s = .next s.legacyStep := by
  rw [seqStep_handshake hp hs hm] <;> simp [State.hsItem, State.hsInternal, Micro.sending, hs, hm]

theorem seqStep_f0_start (hs : s.hsStep = .f0) (hm : s.micro = .start) : seqStep s = .next s.f0 := by
  rw [seqStep_handshake hp hs hm] <;> simp [State.hsItem, State.hsInternal, Micro.sending, hs, hm]

theorem seqStep_f4_start (hs : s.hsStep = .f4) (hm : s.micro = .start) : seqStep s = .next s.f4Purge := by
  rw [seqStep_handshake hp hs hm] <;> simp [State.hsItem, State.hsInternal, Micro.sending, hs, hm]

/-- Phase A with no run: the lock is taken and a run begins if one is due (R250, R253). -/
theorem seqStep_a_start (hs : s.hsStep = .idle) (hm : s.micro = .start) : seqStep s = .next s.phaseA := by
  have hf : s.fetch = none := by simp [State.fetch, State.hsItem, hp, hs, hm]
  simp [seqStep_of_no_item hf, State.internal, hp, hs, hm]

theorem seqStep_a_test (hs : s.hsStep = .idle) (hm : s.micro = .test) : seqStep s = .next s.afterA := by
  have hf : s.fetch = none := by simp [State.fetch, State.hsItem, hp, hs, hm]
  simp [seqStep_of_no_item hf, State.internal, hp, hm]

omit hp in
theorem seqStep_sleep {t : Nat} (hp : s.phase = .sleep) (hm : s.micro = .wait t) :
    seqStep s = .next (s.toPhase .a) := by
  have hf : s.fetch = none := by simp [State.fetch, hp]
  simp [seqStep_of_no_item hf, State.internal, hp, hm]

/-! The steps that read a byte, by what the line gives (R82). -/

omit hp in
theorem lineItem_of_byte {b : Byte} {r : List Byte} (p : Port) (ha : s.env.readAns ≠ .fail)
    (hl : s.env.lineRx = b :: r) : s.lineItem p = some (p, [b]) := by
  simp [State.lineItem, s.readFails_eq_false ha, hl]

omit hp in
theorem lineItem_of_none (p : Port) (h : s.env.readAns = .fail ∨ s.env.lineRx = []) : s.lineItem p = none := by
  rcases h with h | h <;> simp [State.lineItem, State.readFails, h]

omit hp in
/-- A read of the sync byte that fails, gives no byte or another one (R217, R218). -/
theorem no_sync_cases (h : s.env.readAns = .fail ∨ s.env.lineRx.head? ≠ some 0x55#8) :
    s.lineItem .sync = none
      ∨ ∃ b, s.lineItem .sync = some (.sync, [b]) ∧ decode .sync [b] = .error .notSync := by
  by_cases ha : s.env.readAns = .fail
  · exact .inl (lineItem_of_none .sync (.inl ha))
  cases hl : s.env.lineRx with
  | nil => exact .inl (lineItem_of_none .sync (.inr hl))
  | cons b r =>
    have hb : b ≠ 0x55#8 := by
      rcases h with h | h
      · exact absurd h ha
      · simpa [hl] using h
    exact .inr ⟨b, lineItem_of_byte .sync ha hl, by simp [decode, hb]⟩

theorem seqStep_s3_read {n t : Nat} (hs : s.hsStep = .s3) (hm : s.micro = .read n t)
    (h : s.env.readAns = .fail ∨ s.env.lineRx.head? ≠ some 0x55#8) : seqStep s = .next s.s3Retry := by
  have hitem : s.hsItem = s.lineItem .sync := by simp [State.hsItem, hs, hm]
  have hint : s.hsInternal = .next s.s3Retry := by simp [State.hsInternal, hs, hm]
  rcases no_sync_cases h with h | ⟨b, h, hd⟩
  · rw [seqStep_handshake hp hs hm (by simp) (by simp) rfl (hitem.trans h), hint]
  · rw [seqStep_handshake_undecoded hp hs hm (by simp) (by simp) rfl (hitem.trans h) hd, hint]

theorem seqStep_s3_reread {n t : Nat} (hs : s.hsStep = .s3) (hm : s.micro = .reread n t)
    (h : s.env.readAns = .fail ∨ s.env.lineRx.head? ≠ some 0x55#8) : seqStep s = .next s.s3Fail := by
  have hitem : s.hsItem = s.lineItem .sync := by simp [State.hsItem, hs, hm]
  have hint : s.hsInternal = .next s.s3Fail := by simp [State.hsInternal, hs, hm]
  rcases no_sync_cases h with h | ⟨b, h, hd⟩
  · rw [seqStep_handshake hp hs hm (by simp) (by simp) rfl (hitem.trans h), hint]
  · rw [seqStep_handshake_undecoded hp hs hm (by simp) (by simp) rfl (hitem.trans h) hd, hint]

theorem seqStep_s7_read_none {n t : Nat} (hs : s.hsStep = .s7) (hm : s.micro = .read n t)
    (h : s.env.readAns = .fail ∨ s.env.lineRx = []) : seqStep s = .next s.s7Fail := by
  have hitem : s.hsItem = none := by simpa [State.hsItem, hs, hm] using lineItem_of_none .addrComplement h
  rw [seqStep_handshake hp hs hm (by simp) (by simp) rfl hitem]
  simp [State.hsInternal, hs, hm]

/-- Key byte 1 without bit 6 is no item of its place (R126), and so invalid (R223). -/
theorem seqStep_s5_key1_invalid {k : Byte} (hs : s.hsStep = .s5) (hm : s.micro = .key1) (hk : s.hsKb[0]? = some k)
    (hbit : k.getLsbD 6 = false) : seqStep s = .next (s.hsFail .badKeyBytes) := by
  have hitem : s.hsItem = some (.key1, [k]) := by simp [State.hsItem, hs, hm, hk]
  have hd : decode .key1 [k] = .error .keyByte1Bit6 := by simp only [decode, decodeKey1, hbit]; rfl
  rw [seqStep_handshake_undecoded hp hs hm (by simp) (by simp) rfl hitem hd]
  simp [State.hsInternal, hs, hm]

end
end

/-- Settles O31. -/
theorem handshakeRunBegins : Obligations.HandshakeRunBegins := by
  intro s
  refine ⟨fun n hp hs hm hc hn => ?_, fun hp hs hm hc => ?_, fun hp hs hm => ?_, fun t hp hm => ?_,
    fun hp hs hm hch => ?_, fun hp hs hm hch => ?_, fun t hp hs hm => ?_⟩
  · have hdue : s.connState = .disconnected ∧ 0 < s.attemptsLeft := ⟨hc, by omega⟩
    rw [seqStep_a_start hp hs hm, State.phaseA, if_pos (by exact hdue)]
    simp [State.hsBegin, State.raise, hn]
  · have hdue : ¬(s.connState = .disconnected ∧ 0 < s.attemptsLeft) := by
      rintro ⟨hd, ha⟩
      rcases hc with hc | hc
      · exact hc hd
      · omega
    rw [seqStep_a_start hp hs hm, State.phaseA, if_neg (by exact hdue)]
    rfl
  · rw [seqStep_a_test hp hs hm]
    cases hc : s.connState <;> simp [State.afterA, State.iterates, hc, State.toSleep, State.asleep, State.toPhase]
  · rw [seqStep_sleep hp hm]
    rfl
  · rw [seqStep_s0_start hp hs hm, State.s0Begin, if_neg (by simp [hch])]
    rfl
  · rw [seqStep_s0_start hp hs hm, State.s0Begin, if_pos (by simpa using hch)]
    rfl
  · rw [seqStep_s0_wait hp hs hm]
    rfl

/-! ### The address character (R125, R213) -/

theorem level5_bit (a : BitVec 7) {j : Nat} (hj : j < 7) : level5 a (j + 1) = a.getLsbD j := by
  interval_cases j <;> rfl

/-- The parity bit makes the number of ones odd. -/
theorem ones_add_parity (a : BitVec 7) : (ones (bits7 a) + (level5 a 8).toNat) % 2 = 1 := by
  have hparity : level5 a 8 = (ones (bits7 a) % 2 == 0) := rfl
  rcases Nat.mod_two_eq_zero_or_one (ones (bits7 a)) with h | h <;> simp [hparity, h]; omega

theorem execAddr5_start (a : BitVec 7) {s : State} (hm : s.micro = .start) :
    execAddr5 a s = .next (({ s with hsT0 := s.env.now } : State).beginSlot a 0) := by
  simp [execAddr5, hm]

theorem execAddr5_slot (a : BitVec 7) {s : State} {k t : Nat} (hm : s.micro = .slot k t) :
    execAddr5 a s = if k < 10 then .next (s.beginSlot a k) else .next (s.toStep .s2) := by
  simp [execAddr5, hm]

/-- Settles O32. -/
theorem addressCharacterSlots : Obligations.AddressCharacterSlots := by
  intro a s
  refine ⟨fun hp hs hm => ?_, fun hm => ?_, fun k t hm hk => ?_, fun k t hm hk => ?_, fun hp hs hm => ?_, rfl, rfl,
    fun j hj => level5_bit a hj, ones_add_parity a, ?_⟩
  · rcases hm with hm | ⟨k, t, hm⟩ <;> simp [State.fetch, State.hsItem, hp, hs, hm]
  · have ht : s.env.now + (0 + 1) * tbit s.cfg = s.env.now + tbit s.cfg := by omega
    rw [← ht]
    exact execAddr5_start a hm
  · exact (execAddr5_slot a hm).trans (if_pos hk)
  · exact (execAddr5_slot a hm).trans (if_neg (not_lt.mpr hk))
  · rw [seqStep_s2_start hp hs hm]
    rfl
  · simp [tbit]; omega

/-! ### The reads of the handshake -/

/-- Settles O33: the sync byte is the item `.sync`, everything else ends in `s3Retry` and `s3Fail`. -/
theorem syncByteEndsTheSearch : Obligations.SyncByteEndsTheSearch := by
  intro s
  refine ⟨fun hp hs hm => ?_, fun b r t hp hs hm ha hl => ?_, fun r ha hl => ?_, fun t hp hs hm ha hl => ?_,
    fun t hp hs hm ha hl => ?_, fun t hp hs hm ha => ?_⟩
  · rw [seqStep_s3_start hp hs hm]
    rfl
  · have hitem := lineItem_of_byte .sync ha hl
    rcases hm with hm | hm <;> simp [State.fetch, State.hsItem, hp, hs, hm, hitem]
  · have hexec : exec .sync s = .next ((s.readDone 1).toStep .s4) := rfl
    rw [hexec, s.readDone_eq_took ha, hl]
    rfl
  · rw [seqStep_s3_read hp hs hm (.inr hl), State.s3Retry, s.readDone_eq_took ha, s.readFails_eq_false ha,
      List.drop_one]
    rfl
  · rw [seqStep_s3_reread hp hs hm (.inr hl), State.s3Fail, s.readDone_eq_took ha, s.readFails_eq_false ha,
      List.drop_one]
    rfl
  · have hfail : s.readFails = true := by simp [State.readFails, ha]
    rcases hm with hm | hm
    · rw [seqStep_s3_read hp hs hm (.inl ha), State.s3Retry, s.readDone_of_fail ha, if_pos hfail]
    · rw [seqStep_s3_reread hp hs hm (.inl ha), State.s3Fail, s.readDone_of_fail ha, if_pos hfail]

/-! Step S4: the key bytes taken (R220, R221). -/

theorem State.takeKeys_of_ok {s : State} (ha : s.env.readAns ≠ .fail) (n : Nat) :
    s.takeKeys n = { s.took (s.env.lineRx.drop n) with hsKb := s.hsKb ++ s.env.lineRx.take n } := by
  rw [State.takeKeys, s.readDone_eq_took ha, s.readBytes_of_ok ha]

theorem State.s4Read_of_byte {s : State} {b : Byte} {r : List Byte} (ha : s.env.readAns ≠ .fail)
    (hl : s.env.lineRx = b :: r) :
    s.s4Read = if s.hsKb = [] then { s.took r with hsKb := [b], micro := .read 1 (s.env.now + s.cfg.kbTimeout) }
      else { s.took r with hsKb := s.hsKb ++ [b], hsStep := .s5, micro := .start } := by
  have hbytes : s.readBytes 1 = [b] := by simp [s.readBytes_of_ok ha, hl]
  simp only [State.s4Read, s.readFails_eq_false ha, State.takeKeys_of_ok ha, hbytes, hl]
  by_cases hk : s.hsKb = []
  · simp [hk, State.beginRead, State.goto, State.took]
  · have hlen := List.length_pos_iff.mpr hk
    have hlt : ¬s.hsKb.length + 1 < 2 := by omega
    simp [hk, State.toStep]

theorem State.s4Read_of_none {s : State} (ha : s.env.readAns ≠ .fail) (hl : s.env.lineRx = []) :
    s.s4Read = { s.took [] with micro := .reread (2 - s.hsKb.length) (s.env.now + 2 * s.cfg.kbTimeout) } := by
  simp [State.s4Read, s.readFails_eq_false ha, State.takeKeys_of_ok ha, s.readBytes_of_ok ha, hl, State.beginReread,
    State.goto, State.took]

theorem State.s4Last_of_ok {s : State} (ha : s.env.readAns ≠ .fail) (n : Nat) :
    s.s4Last n = if (s.hsKb ++ s.env.lineRx.take n).length < 2 then
        ({ s.took (s.env.lineRx.drop n) with hsKb := s.hsKb ++ s.env.lineRx.take n } : State).hsFail .noKeyBytes
      else { s.took (s.env.lineRx.drop n) with
        hsKb := s.hsKb ++ s.env.lineRx.take n, hsStep := .s5, micro := .start } := by
  simp only [State.s4Last, s.readFails_eq_false ha, State.takeKeys_of_ok ha]
  rfl

theorem State.takeKeys_of_fail {s : State} (ha : s.env.readAns = .fail) (n : Nat) : s.takeKeys n = s.readFailed := by
  rw [State.takeKeys, s.readDone_of_fail ha, s.readBytes_of_fail ha, List.append_nil]
  rfl

theorem State.readFails_eq_true {s : State} (ha : s.env.readAns = .fail) : s.readFails = true := by
  simp [State.readFails, ha]

theorem seqStep_s4_fail {s : State} (hp : s.phase = .a) (hs : s.hsStep = .s4) {n t : Nat}
    (hm : s.micro = .read n t ∨ s.micro = .reread n t) (ha : s.env.readAns = .fail) :
    seqStep s = .next (s.readFailed.hsFail .transport) := by
  rcases hm with hm | hm
  · rw [seqStep_s4_read hp hs hm, State.s4Read, if_pos (State.readFails_eq_true ha), State.takeKeys_of_fail ha]
  · rw [seqStep_s4_reread hp hs hm, State.s4Last, if_pos (State.readFails_eq_true ha), State.takeKeys_of_fail ha]

/-! Step S5: the verdicts on the key bytes (R222 to R224). -/

theorem oddOnes_iff (b : Byte) : oddOnes b = true ↔ ones (bits8 b) % 2 = 1 := by simp [oddOnes]

/-- The fields of key byte 1 decide, and its parity where that is checked (R223); bit 6 is set in every `kb1Byte`. -/
theorem kb1Valid_iff (parity p t u h b : Bool) (x : BitVec 2) :
    kb1Valid parity (kb1Byte p t u h b x) = true ↔
      (parity = true → ones (bits8 (kb1Byte p t u h b x)) % 2 = 1) ∧ ¬(t = true ∧ u = true)
        ∧ (h = true ∨ b = true) := by
  have hbits : ∀ (p t u h b : Bool) (x : BitVec 2), (kb1Byte p t u h b x).getLsbD 6 = true
      ∧ (kb1Byte p t u h b x).getLsbD 5 = t ∧ (kb1Byte p t u h b x).getLsbD 4 = u
      ∧ (kb1Byte p t u h b x).getLsbD 3 = h ∧ (kb1Byte p t u h b x).getLsbD 2 = b := by decide
  obtain ⟨h6, h5, h4, h3, h2⟩ := hbits p t u h b x
  simp only [kb1Valid, Bool.and_eq_true, Bool.or_eq_true, Bool.not_eq_true', Bool.and_eq_false_iff, h6, h5, h4, h3, h2,
    oddOnes_iff]
  cases parity <;> cases t <;> cases u <;> simp

theorem kb2Valid_iff (parity : Bool) (b : Byte) :
    kb2Valid parity b = true ↔ (parity = true → ones (bits8 b) % 2 = 1) := by
  simp only [kb2Valid, Bool.or_eq_true, Bool.not_eq_true', oddOnes_iff]
  cases parity <;> simp

/-- Settles O34: step S4 by what its read gives, step S5 by the legacy pair, and the verdict `kb1Valid_iff`. -/
theorem keyByte1Verdict : Obligations.KeyByte1Verdict := by
  intro s
  refine ⟨fun hp hs => ⟨fun hm => ?_, fun t b r hm ha hl => ⟨fun hk => ?_, fun k hk => ?_⟩, fun t hm ha hl => ?_,
    fun n t hm ha => ⟨fun hlen => ?_, fun hlen => ?_⟩, fun n t hm ha => seqStep_s4_fail hp hs hm ha⟩,
    fun k1 k2 hp hs hk => ⟨fun hm => ?_, fun hm => ⟨?_, fun hbit => ?_⟩⟩, fun p t u h b x => ?_⟩
  · rw [seqStep_s4_start hp hs hm]
    rfl
  · rw [seqStep_s4_read hp hs hm, State.s4Read_of_byte ha hl, if_pos hk]
  · rw [seqStep_s4_read hp hs hm, State.s4Read_of_byte ha hl, if_neg (by simp [hk]), hk]
    rfl
  · rw [seqStep_s4_read hp hs hm, State.s4Read_of_none ha hl]
  · rw [seqStep_s4_reread hp hs hm, State.s4Last_of_ok ha, if_neg (not_lt.mpr hlen)]
  · rw [seqStep_s4_reread hp hs hm, State.s4Last_of_ok ha, if_pos hlen]
  · have h1 : s.kb1 = k1 := by simp [State.kb1, hk]
    have h2 : s.kb2 = k2 := by simp [State.kb2, hk]
    rw [seqStep_s5_start hp hs hm, State.s5Begin, h1, h2]
    rfl
  · simp [State.fetch, State.hsItem, hp, hs, hm, hk]
  · exact seqStep_s5_key1_invalid hp hs hm (by simp [hk]) hbit
  · exact if_congr (kb1Valid_iff ..) rfl rfl

/-- Settles O35. -/
theorem keyByte2Verdict : Obligations.KeyByte2Verdict := by
  intro s
  refine ⟨fun k1 k2 hp hs hk hm => by simp [State.fetch, State.hsItem, hp, hs, hm, hk], fun p x => ?_⟩
  split
  · next h => exact if_pos ((kb2Valid_iff ..).mpr h)
  · next h => exact if_neg fun hv => h ((kb2Valid_iff ..).mp hv)

/-- The echo of the complement: right, wrong or missing, failed (R225). -/
theorem State.s6Echo_of_ok {s : State} (ha : s.env.readAns ≠ .fail) :
    s.s6Echo = if s.env.lineRx.head? = some (complement s.kb2) then (s.took s.env.lineRx.tail).afterComplement
      else (s.took s.env.lineRx.tail).hsFail .complementEcho := by
  have hbyte : s.env.lineRx.take 1 = [complement s.kb2] ↔ s.env.lineRx.head? = some (complement s.kb2) := by
    cases s.env.lineRx <;> simp
  simp only [State.s6Echo, s.readFails_eq_false ha, s.readDone_eq_took ha, s.readBytes_of_ok ha, hbyte, List.drop_one]
  rfl

theorem State.s6Echo_of_fail {s : State} (ha : s.env.readAns = .fail) :
    s.s6Echo = s.readFailed.hsFail .transport := by
  rw [State.s6Echo, if_pos (State.readFails_eq_true ha), s.readDone_of_fail ha]

/-- Settles O36. -/
theorem complementIsSent : Obligations.ComplementIsSent := by
  intro s
  refine ⟨fun hp hs hm => ?_, fun t k hp hs hm hk => ?_, fun n hcap hv => ?_, fun n hcap hv => ?_, fun n hcap => ?_,
    fun t k hp hs hm hk => ?_⟩
  · rw [seqStep_s6_start hp hs hm]
    rfl
  · simp [State.fetch, State.hsItem, hp, hs, hm, hk, complement]
  · have hone := State.writeCount_one hcap n
    simp only [exec, execKb2Complement, hone, State.lineWrite_eq_wrote, hv]
    rfl
  · have hone := State.writeCount_one hcap n
    simp only [exec, execKb2Complement, hone, State.lineWrite_eq_wrote, hv]
    rfl
  · have hzero := State.writeCount_zero hcap n
    simp only [exec, execKb2Complement, hzero, State.lineWrite_eq_wrote]
    rfl
  · have hkb : complement s.kb2 = 0xFF#8 - k := by simp [complement, State.kb2, List.getD_eq_getElem?_getD, hk]
    rw [seqStep_s6_read hp hs hm, ← hkb]
    refine ⟨fun r ha hl => ?_, fun ha hl => ?_, fun ha => ?_⟩
    · rw [State.s6Echo_of_ok ha, if_pos (by simp [hl]), hl]
      rfl
    · rw [State.s6Echo_of_ok ha, if_neg hl]
    · rw [State.s6Echo_of_fail ha]

/-- Settles O37. -/
theorem addressComplementVerdict : Obligations.AddressComplementVerdict := by
  intro s
  refine ⟨fun hp hs => ⟨fun hm => ?_, fun t n r hm ha hl => ?_, fun t hm ha hl => ?_, fun t hm ha => ?_⟩,
    fun n r ha hl => ?_⟩
  · rw [seqStep_s7_start hp hs hm]
    rfl
  · simp [State.fetch, State.hsItem, hp, hs, hm, lineItem_of_byte .addrComplement ha hl]
  · rw [seqStep_s7_read_none hp hs hm (.inr hl), State.s7Fail, s.readDone_eq_took ha, s.readFails_eq_false ha, hl]
    rfl
  · rw [seqStep_s7_read_none hp hs hm (.inl ha), State.s7Fail, s.readDone_of_fail ha,
      if_pos (State.readFails_eq_true ha)]
  · simp only [exec, execAddrComplement, s.readDone_eq_took ha, hl]
    rfl

/-- Settles O38. -/
theorem slowInitSucceeds : Obligations.SlowInitSucceeds := by
  intro s hp hm
  refine ⟨fun k1 k2 hs hk => ?_, fun a hs ha hc => ?_, fun hs h => ?_⟩
  · rw [seqStep_s8_start hp hs hm, State.s8Success, State.kb1, State.kb2, hk]
    rfl
  · rw [seqStep_sLegacy_start hp hs hm, State.legacyStep, ha, hc]
    rfl
  · rw [seqStep_sLegacy_start hp hs hm, State.legacyStep]
    rcases h with h | h
    · rw [h]
    · rw [h]
      cases s.secondAddr <;> rfl

/-! The wake-up pattern, one level per step (R231 to R233). -/

section
variable {s : State} {t : Nat}

theorem execFastWakeup_f1_start (hs : s.hsStep = .f1) (hm : s.micro = .start) :
    execFastWakeup s = .next (s.beginWait (ms Fixed.fastIdle)) := by
  simp [execFastWakeup, hs, hm]

theorem execFastWakeup_f1_wait (hs : s.hsStep = .f1) (hm : s.micro = .wait t) :
    execFastWakeup s = .next (s.toStep .f2) := by
  simp [execFastWakeup, hs, hm]

theorem execFastWakeup_f2_start (hs : s.hsStep = .f2) (hm : s.micro = .start) :
    execFastWakeup s = .next
      ((({ s with hsT0 := s.env.now } : State).lineSetBreak true).goto (.wait (s.env.now + s.cfg.fastLow))) := by
  simp [execFastWakeup, hs, hm]

theorem execFastWakeup_f2_wait (hs : s.hsStep = .f2) (hm : s.micro = .wait t) :
    execFastWakeup s = .next (s.toStep .f3) := by
  simp [execFastWakeup, hs, hm]

theorem execFastWakeup_f3_start (hs : s.hsStep = .f3) (hm : s.micro = .start) :
    execFastWakeup s = .next
      ((s.lineSetBreak false).goto (.wait (s.hsT0 + s.cfg.fastLow + s.cfg.fastHigh))) := by
  simp [execFastWakeup, hs, hm]

theorem execFastWakeup_f3_wait (hs : s.hsStep = .f3) (hm : s.micro = .wait t) :
    execFastWakeup s = .next (s.toStep .f4) := by
  simp [execFastWakeup, hs, hm]

end

/-- Settles O39. -/
theorem fastWakeupLevels : Obligations.FastWakeupLevels := by
  intro s
  refine ⟨fun hp hs hm => ?_, fun hp hs hm => ?_, fun hs hm => execFastWakeup_f1_start hs hm,
    fun t hs hm => execFastWakeup_f1_wait hs hm, fun hs hm => execFastWakeup_f2_start hs hm,
    fun t hs hm => execFastWakeup_f2_wait hs hm, fun hs hm => execFastWakeup_f3_start hs hm,
    fun t hs hm => execFastWakeup_f3_wait hs hm, fun hp hs hm => ?_⟩
  · rw [seqStep_f0_start hp hs hm]
    rfl
  · rcases hs with hs | hs | hs <;> rcases hm with hm | ⟨t, hm⟩ <;>
      simp [State.fetch, State.hsItem, hp, hs, hm, encode]
  · rw [seqStep_f4_start hp hs hm]
    rfl

end Sys2Proof.Machine

namespace Sys2Proof.Machine

/-! ### Host commands (R310 to R321) -/

section
variable (s : State)

theorem State.terminated_eq : s.terminated = true ↔ s.connState = .communicationTerminated := by
  simp [State.terminated]

end

/-- Settles O41: the refusals in the order of `execConnect`. -/
theorem connectCommand : Obligations.ConnectCommand := by
  intro s mode addr second n
  split
  · next h => exact if_pos h
  · next h =>
    split
    · next hn => exact (if_neg h).trans (if_pos hn)
    · next hn => exact (if_neg h).trans (if_neg hn)

/-- DISCONNECT of a Connected connection, read as one update (R313): the StopCommunication at the tail if there is
room. -/
theorem State.beginDisconnect_eq (s : State) :
    s.beginDisconnect = { s with
      attemptsLeft := 0
      connState := .disconnectionPending
      events := s.events ++ [.connStateChanged .connected .disconnectionPending]
      txq := if s.txq.length < s.cfg.txqCap then s.txq ++ [ownEntry (stopCommRequest s)] else s.txq
      swDisc := ⟨true, 0⟩ } := by
  unfold State.beginDisconnect State.txqPush
  by_cases h : s.txq.length < s.cfg.txqCap
  · simp [State.raise, Stopwatch.restart, stopCommRequest, h]
  · simp [State.raise, Stopwatch.restart, h]

/-- Settles O42: the five branches of `execDisconnect`. -/
theorem disconnectCommand : Obligations.DisconnectCommand := by
  intro s
  refine ⟨fun h => ?_, fun h => ?_, fun h => ?_, fun h => ?_, fun h => ?_⟩
  all_goals simp only [exec, execDisconnect, h]
  · rfl
  · rw [State.enterDisconnected_of_live (by simp)]
    rfl
  · rw [State.beginDisconnect_eq, stopCommRequest, ownRequest_eq]
    rfl
  · rfl
  · rfl

/-- Settles O43. -/
theorem terminateCommand : Obligations.TerminateCommand := by
  intro s
  have hexec : exec .terminate s = .next (if s.terminated then s else s.terminate).accept := rfl
  refine ⟨fun h => ?_, fun h => ?_, fun h hd => ?_⟩
  · rw [hexec, if_pos (s.terminated_eq.mpr h)]
    rfl
  · rw [hexec, if_neg (by simp [s.terminated_eq, h]), State.terminate, State.enterDisconnected_of_down h]
    rfl
  · rw [hexec, if_neg (by simp [s.terminated_eq, h]), State.terminate, State.enterDisconnected_of_live hd]
    rfl

/-- ENQUEUE's refusals in their order, else the push (R316). -/
theorem execEnqueue_eq (m : Message) (probe : Bool) (s : State) :
    execEnqueue m probe s =
      if s.connState ≠ .connectionPending ∧ s.connState ≠ .connected then .next (s.refused 0x04#8 .wrongState)
      else if serializable m = false then .next (s.refused 0x04#8 .notSerializable)
      else if s.cfg.txqCap ≤ s.txq.length then .next (s.refused 0x04#8 .queueFull)
      else .next (({ s with txq := s.txq ++ [⟨m, 0, probe, false⟩] } : State).replied .ok) := by
  unfold execEnqueue
  refine if_congr Iff.rfl rfl ?_
  cases hs : serializable m
  · rfl
  by_cases hfull : s.cfg.txqCap ≤ s.txq.length
  · rw [s.txqPush_of_full _ hfull, if_pos rfl, if_neg (by simp), if_pos hfull]
    rfl
  · rw [s.txqPush_of_room _ (not_le.mp hfull), if_pos rfl, if_neg (by simp), if_neg hfull]
    rfl

/-- Settles O44. -/
theorem enqueueCommand : Obligations.EnqueueCommand := by
  intro s m probe
  have hexec : exec (.enqueue m probe) s = execEnqueue m probe s := rfl
  rw [hexec, execEnqueue_eq]
  split
  · rfl
  split
  · rfl
  split <;> rfl

/-- Settles O45. -/
theorem timingCommands : Obligations.TimingCommands := by
  intro s which tp
  refine ⟨fun h => ⟨if_pos (s.terminated_eq.mpr h), if_pos (s.terminated_eq.mpr h)⟩, fun h => ?_⟩
  have hlive : ¬s.terminated = true := fun ht => h (s.terminated_eq.mp ht)
  refine ⟨fun hl => ?_, fun hl => ?_, if_neg hlive⟩
  · exact (if_neg hlive).trans (if_neg (by simp [hl]))
  · have hexec : exec (.setTiming which tp) s = .next (s.writeTiming which tp).accept :=
      (if_neg hlive).trans (if_pos hl)
    rw [hexec]
    cases which <;> rfl

/-- Settles O46. -/
theorem baudStatusAndUnassigned : Obligations.BaudStatusAndUnassigned := by
  intro s rate x c
  refine ⟨?_, by cases x <;> rfl, rfl⟩
  split
  · next h => exact if_pos (s.terminated_eq.mpr h)
  next h =>
  have hlive : ¬s.terminated = true := fun ht => h (s.terminated_eq.mp ht)
  split
  · next hr => exact (if_neg hlive).trans (if_pos hr)
  · next hr => exact (if_neg hlive).trans (if_neg hr)

/-! ### The sequencer in phase D (R188 to R195) -/

section
variable {s : State} (hp : s.phase = .d)
include hp

/-- No encoded item is met in phase D. -/
theorem seqStep_phaseD : seqStep s = s.internal := seqStep_of_no_item (by simp [State.fetch, hp])

theorem seqStep_d_start (hm : s.micro = .start) : seqStep s = .next s.checkP1 := by
  simp [seqStep_phaseD hp, State.internal, hp, hm]

theorem seqStep_d_probe1 {t : Nat} (hm : s.micro = .probe1 t) : seqStep s = .next s.probeP1 := by
  simp [seqStep_phaseD hp, State.internal, hp, hm]

theorem seqStep_d_checkP2 (hm : s.micro = .checkP2) : seqStep s = s.checkP2 := by
  simp [seqStep_phaseD hp, State.internal, hp, hm]

theorem seqStep_d_checkP3 (hm : s.micro = .checkP3) : seqStep s = .next s.checkP3 := by
  simp [seqStep_phaseD hp, State.internal, hp, hm]

theorem seqStep_d_probe3 {t : Nat} (hm : s.micro = .probe3 t) : seqStep s = .next s.probeP3 := by
  simp [seqStep_phaseD hp, State.internal, hp, hm]

theorem seqStep_d_checkDisc (hm : s.micro = .checkDisc) : seqStep s = .next s.checkDisc := by
  simp [seqStep_phaseD hp, State.internal, hp, hm]

end

/-! The tests (R184, R188, R190 to R192, R194), as propositions. -/

theorem Stopwatch.over_iff (w : Stopwatch) (limit : Nat) :
    w.over limit = true ↔ w.running = true ∧ limit < w.elapsed := by
  simp [Stopwatch.over]

section
variable (s : State)

theorem State.p1Over_iff : s.p1Over = true ↔ s.swP1.running = true ∧ 1000 * s.tpCurrent.p1max < s.swP1.elapsed :=
  Stopwatch.over_iff ..

theorem State.p2Over_iff :
    s.p2Over = true ↔ s.swP1.running = false ∧ s.swP2.running = true ∧ 2 * (1000 * s.p2maxEff) < s.swP2.elapsed := by
  rw [State.p2Over, Bool.and_eq_true, Stopwatch.over_iff, Bool.not_eq_true']
  rfl

theorem State.p3Over_iff :
    s.p3Over = true ↔
      s.connState = .connected ∧ s.swP3.running = true ∧ 1000 * s.tpCurrent.p3max < s.swP3.elapsed := by
  rw [State.p3Over, Bool.and_eq_true, Stopwatch.over_iff, beq_iff_eq]
  rfl

theorem State.discOver_iff :
    s.discOver = true ↔ s.connState = .disconnectionPending ∧ s.swDisc.running = true ∧ 5000000 < s.swDisc.elapsed := by
  rw [State.discOver, Bool.and_eq_true, Stopwatch.over_iff, beq_iff_eq]
  rfl

theorem State.p3MinOk_iff :
    s.p3MinOk = true ↔ s.swP3.running = true ∧ 1000 * s.tpCurrent.p3min ≤ s.swP3.elapsed := by
  rw [State.p3MinOk, Bool.and_eq_true, decide_eq_true_iff]
  rfl

theorem State.canTx_iff :
    s.canTx = true ↔ s.echoFifo = [] ∧ s.expecting = false
      ∧ (s.swP3.running = true ∧ 1000 * s.tpCurrent.p3min ≤ s.swP3.elapsed)
      ∧ (s.connState = .connected ∨ s.connState = .disconnectionPending) := by
  simp [State.canTx, s.p3MinOk_iff, and_assoc]

end

/-! `check_P2` (R190) and the end of a wait for a response (R288, R290). -/

section
variable {s : State}

theorem State.checkP2_of_not_over (h : s.p2Over = false) : s.checkP2 = .next { s with micro := .checkP3 } := by
  simp [State.checkP2, h, State.goto]

theorem State.checkP2_of_not_expecting (h : s.p2Over = true) (he : s.expecting = false) :
    s.checkP2 = .next { s with swP2 := ⟨false, 0⟩, micro := .checkP3 } := by
  simp [State.checkP2, h, he, Stopwatch.reset]

/-- A P2 expiry with a response expected: the wait is over and reported (R190). -/
def State.p2Expired (s : State) : State :=
  { s with
    swP2 := ⟨false, 0⟩, micro := .checkP3, expecting := false, events := s.events ++ [.timingViolation .p2] }

theorem State.checkP2_of_expecting (h : s.p2Over = true) (he : s.expecting = true) :
    s.checkP2 = if s.respCount = 0 then s.p2Expired.unansweredMsg else s.p2Expired.finalize .success := by
  simp only [State.checkP2, h, he, if_true]
  rfl

variable {e : Entry} {q : List Entry}

theorem State.unansweredMsg_cons (hq : s.txq = e :: q) :
    s.unansweredMsg =
      let t := s.raise (.messageUnanswered e.msg e.attempts)
      if s.connState = .connectionPending then
        .next ((t.raise (.handshakeFailed .noResponse)).enterDisconnected .handshakeFailure)
      else if e.probe then .next t
      else
        let u : State := { t with unanswered := s.unanswered + 1 }
        .next (if 3 ≤ s.unanswered + 1 then u.forceDisconnect .unanswered else u) := by
  unfold State.unansweredMsg
  split
  · next h => simp [hq] at h
  · next e' q' h =>
    obtain ⟨rfl, rfl⟩ : e' = e ∧ q' = q := by simpa [h] using hq
    rfl

theorem State.unansweredMsg_of_pending (hq : s.txq = e :: q) (hc : s.connState = .connectionPending) :
    s.unansweredMsg = .next ({ s with
      events := s.events ++ [.messageUnanswered e.msg e.attempts, .handshakeFailed .noResponse] } : State).cleared := by
  have hlive : ((s.raise (.messageUnanswered e.msg e.attempts)).raise (.handshakeFailed .noResponse)).connState
      ≠ .disconnected := by simp [hc]
  rw [State.unansweredMsg_cons hq]
  dsimp only
  rw [if_pos hc, State.enterDisconnected_of_live hlive]
  simp [State.raise]

theorem State.unansweredMsg_of_live (hq : s.txq = e :: q) (hp : s.connState ≠ .connectionPending)
    (hd : s.connState ≠ .disconnected) :
    s.unansweredMsg = .next (
      let t : State := { s with
        unanswered := if e.probe then s.unanswered else s.unanswered + 1
        events := s.events ++ [.messageUnanswered e.msg e.attempts] }
      if e.probe = false ∧ 3 ≤ s.unanswered + 1 then
        ({ t with events := t.events ++ [.forcedDisconnect .unanswered] } : State).cleared
      else t) := by
  rw [State.unansweredMsg_cons hq]
  dsimp only
  rw [if_neg hp]
  by_cases hprobe : e.probe = true
  · simp only [hprobe, if_true, reduceCtorEq, false_and, if_false]
    rfl
  · rw [if_neg hprobe, State.forceDisconnect_of_live (by exact hd)]
    simp only [Bool.eq_false_iff.mpr hprobe, true_and]
    rfl

end

/-- Settles O47. -/
theorem p2ExpiryEndsTheWait : Obligations.P2ExpiryEndsTheWait := by
  intro s hp hm
  rw [seqStep_d_checkP2 hp hm]
  refine ⟨fun h => ?_, fun h1 h2 hlt => ?_⟩
  · refine State.checkP2_of_not_over (Bool.eq_false_iff.mpr fun ho => ?_)
    obtain ⟨hp1, hp2, hover⟩ := s.p2Over_iff.mp ho
    rcases h with h | h | h
    · simp [hp1] at h
    · simp [hp2] at h
    · omega
  have hover : s.p2Over = true := s.p2Over_iff.mpr ⟨h1, h2, hlt⟩
  refine ⟨fun he => State.checkP2_of_not_expecting hover he, fun e q hq he => ⟨fun hr => ?_, fun hr hc => ?_,
    fun hr hc hd => ?_⟩⟩
  · rw [State.checkP2_of_expecting hover he, if_neg hr, s.p2Expired.finalize_cons hq]
    rfl
  · rw [State.checkP2_of_expecting hover he, if_pos hr, State.unansweredMsg_of_pending (s := s.p2Expired) hq hc]
    simp [State.p2Expired, State.cleared]
  · rw [State.checkP2_of_expecting hover he, if_pos hr, State.unansweredMsg_of_live (s := s.p2Expired) hq hc hd]
    simp only [State.p2Expired, List.append_assoc, List.singleton_append]
    split <;> rfl

/-- A probe read that ends with no byte, in time, early or failed (R189). -/
theorem State.probed_of_no_byte {s u : State} (h : (s.env.readAns ≠ .fail ∧ s.env.lineRx = [] ∧ u = s.took [])
    ∨ (s.env.readAns = .fail ∧ u = s.readFailed)) : s.probed = (false, u) ∧ u.connState = s.connState := by
  rcases h with ⟨ha, hl, rfl⟩ | ⟨ha, rfl⟩
  · exact ⟨s.probed_of_none ha hl, rfl⟩
  · exact ⟨s.probed_of_fail ha, rfl⟩

/-- Settles O48. -/
theorem otherExpiryChecks : Obligations.OtherExpiryChecks := by
  intro s hp
  refine ⟨fun hm => ?_, fun t hm => ⟨fun b r ha hl => ?_, fun u hu => ?_⟩, fun hm => ?_,
    fun t hm => ⟨fun b r ha hl => ?_, fun u hu hd => ?_⟩, fun hm => ?_⟩
  · rw [seqStep_d_start hp hm, State.checkP1, if_congr s.p1Over_iff rfl rfl]
    split <;> rfl
  · rw [seqStep_d_probe1 hp hm, State.probeP1, s.probed_of_byte ha hl]
    rfl
  · obtain ⟨hprobed, hc⟩ := State.probed_of_no_byte hu
    rw [seqStep_d_probe1 hp hm, State.probeP1, hprobed]
    rfl
  · rw [seqStep_d_checkP3 hp hm, State.checkP3, if_congr s.p3Over_iff rfl rfl]
    split <;> rfl
  · rw [seqStep_d_probe3 hp hm, State.probeP3, s.probed_of_byte ha hl]
    rfl
  · obtain ⟨hprobed, hc⟩ := State.probed_of_no_byte hu
    have hlive : (u.raise (.timingViolation .p3)).connState ≠ .disconnected := by rwa [State.raise_connState, hc]
    have hforce := State.forceDisconnect_of_live hlive .p3Timeout
    rw [seqStep_d_probe3 hp hm, State.probeP3, hprobed]
    dsimp only
    rw [if_neg (by simp), hforce]
    simp only [State.raise, List.append_assoc, List.singleton_append]
    rfl
  · rw [seqStep_d_checkDisc hp hm, State.checkDisc, if_congr s.discOver_iff rfl rfl]
    split
    · next h => rw [State.enterDisconnected_of_live (by simp [h.1])]; rfl
    · rfl

/-! ### Phase E (R283 to R287, R291) -/

theorem seqStep_e_start {s : State} (hp : s.phase = .e) (hm : s.micro = .start) : seqStep s = s.phaseE := by
  have hf : s.fetch = none := by simp [State.fetch, hp, hm]
  simp [seqStep_of_no_item hf, State.internal, hp, hm]

section
variable {s : State} {e : Entry} {q : List Entry}

theorem State.phaseE_of_closed (h : s.canTx = false) : s.phaseE = .next s.asleep := by
  simp only [State.phaseE, h]
  rfl

/-- A keep-alive is only injected into an empty queue (R285). -/
theorem State.keepAlive_of_queued (hq : s.txq ≠ []) : s.keepAlive = s := by
  simp [State.keepAlive, State.keepAliveDue, hq]

theorem State.phaseE_of_head (h : s.canTx = true) (hq : s.txq = e :: q) :
    s.phaseE = if e.attempts ≤ e.msg.maxRetries then .next { s with micro := .send } else s.retryExhausted := by
  unfold State.phaseE
  rw [if_pos h, State.keepAlive_of_queued (by simp [hq])]
  dsimp only
  split
  · next h' => simp [hq] at h'
  · next e' q' h' =>
    obtain ⟨rfl, rfl⟩ : e' = e ∧ q' = q := by simpa [h'] using hq
    rfl

theorem State.keepAlive_of_not_due (h : s.keepAliveDue = false) : s.keepAlive = s := by
  simp [State.keepAlive, h]

theorem State.keepAlive_of_due (h : s.keepAliveDue = true) (hroom : s.txq.length < s.cfg.txqCap) :
    s.keepAlive = { s with txq := s.txq ++ [ownEntry (keepAliveRequest s)] } := by
  simp [State.keepAlive, h, s.txqPush_of_room _ hroom]

theorem State.keepAliveDue_iff :
    s.keepAliveDue = true ↔ s.cfg.keepaliveEn = true ∧ s.connState = .connected ∧ s.txq = []
      ∧ 1000 * s.tpCurrent.p3max < 2 * s.swP3.elapsed := by
  rw [State.keepAliveDue, Bool.and_eq_true, decide_eq_true_iff]
  simp [ms, and_assoc]

/-- The iteration is over where there is nothing to send (R284). -/
theorem State.phaseE_of_nothing (h : s.canTx = true) (hq : s.txq = []) (hk : s.keepAliveDue = false) :
    s.phaseE = .next s.asleep := by
  unfold State.phaseE
  rw [if_pos h, State.keepAlive_of_not_due hk]
  dsimp only
  rw [hq]
  rfl

/-- The head entry without budget is finalised as failed (R287); a StopCommunication of a pending disconnect takes the
connection down with it (R291). -/
theorem State.retryExhausted_cons (hq : s.txq = e :: q) :
    s.retryExhausted =
      let t : State := { s with
        txq := q, respCount := 0, expecting := false
        events := s.events ++ (if e.internal then [] else [.messageFinished e.msg .failed e.attempts]) }
      .next (if e.internal = true ∧ e.msg.sid = s.cfg.sidStopComm ∧ s.connState = .disconnectionPending then
        t.cleared.asleep else t.asleep) := by
  unfold State.retryExhausted
  split
  · next h => simp [hq] at h
  next e' q' h =>
  obtain ⟨rfl, rfl⟩ : e' = e ∧ q' = q := by simpa [h] using hq
  by_cases hstop : e'.internal = true ∧ e'.msg.sid = s.cfg.sidStopComm ∧ s.connState = .disconnectionPending
  · obtain ⟨hi, hsid, hc⟩ := hstop
    simp only [hi, hsid, hc, beq_self_eq_true, Bool.and_self, if_true, and_self, List.append_nil]
    rfl
  · have hstop' : (e'.internal && e'.msg.sid == s.cfg.sidStopComm && s.connState == .disconnectionPending) = false := by
      simpa [and_assoc] using hstop
    simp only [hstop', hstop, Bool.false_eq_true, if_false]
    cases hi : e'.internal
    · rfl
    · simp only [if_true, List.append_nil]
      rfl

end

/-- Settles O49. -/
theorem transmitGateAndKeepAlive : Obligations.TransmitGateAndKeepAlive := by
  intro s hp hm
  rw [seqStep_e_start hp hm]
  refine ⟨fun h => ?_, fun hc he hx h3 hmin => ?_⟩
  · refine State.phaseE_of_closed (Bool.eq_false_iff.mpr fun hgate => ?_)
    obtain ⟨he, hx, ⟨h3, hmin⟩, hc⟩ := s.canTx_iff.mp hgate
    rcases h with ⟨hn, hn'⟩ | h | h | h | h
    · rcases hc with hc | hc
      · exact hn hc
      · exact hn' hc
    · exact h he
    · simp [hx] at h
    · simp [h3] at h
    · omega
  have hgate : s.canTx = true := s.canTx_iff.mpr ⟨he, hx, ⟨h3, hmin⟩, hc⟩
  refine ⟨fun e q hq hle => ?_, fun e q hq hlt => ?_, fun hq hd => ?_, fun hq hconn hroom => ?_⟩
  · rw [State.phaseE_of_head hgate hq, if_pos hle]
  · rw [State.phaseE_of_head hgate hq, if_neg (not_le.mpr hlt), State.retryExhausted_cons hq]
    simp only [← hx]
  · refine State.phaseE_of_nothing hgate hq (Bool.eq_false_iff.mpr fun hk => ?_)
    simp [State.keepAliveDue_iff, hd] at hk
  · split
    · next hdue =>
      have hk : s.keepAliveDue = true := State.keepAliveDue_iff.mpr ⟨hdue.1, hconn, hq, hdue.2⟩
      have hka := State.keepAlive_of_due hk (by simpa [hq] using hroom)
      rw [hq, List.nil_append, keepAliveRequest, ownRequest_eq] at hka
      unfold State.phaseE
      rw [if_pos hgate, hka]
      rfl
    · next hdue =>
      refine State.phaseE_of_nothing hgate hq (Bool.eq_false_iff.mpr fun hk => hdue ?_)
      obtain ⟨hen, -, -, hlt⟩ := State.keepAliveDue_iff.mp hk
      exact ⟨hen, hlt⟩

end Sys2Proof.Machine

namespace Sys2Proof.Machine

/-! ### Waits (R10, R82, R93): when the sequencer can move -/

section
variable {s : State} {t : Nat}

theorem State.enabled_of_pending {n : Nat} (h : s.micro.pending = some (n, t)) : s.enabled = s.readReady n t := by
  simp [State.enabled, h]

theorem Micro.awaited_of_pending {m : Micro} {x : Nat × Nat} (h : m.pending = some x) : m.awaited = none := by
  cases m <;> simp [Micro.pending] at h <;> rfl

theorem State.enabled_of_awaited (h : s.micro.awaited = some t) : s.enabled = decide (t ≤ s.env.now) := by
  have hp : s.micro.pending = none := by cases hm : s.micro <;> simp [hm, Micro.awaited] at h <;> rfl
  simp [State.enabled, h, hp]

theorem State.readReady_iff (n : Nat) :
    s.readReady n t = true ↔ s.env.readAns ≠ .normal ∨ n ≤ s.env.lineRx.length ∨ t ≤ s.env.now := by
  simp [State.readReady, or_assoc]

/-- A wait is a `wait_until` or a read that is not over. -/
theorem State.waitsUntil_iff :
    s.waitsUntil t ↔ s.env.now < t ∧ (s.micro.awaited = some t
      ∨ ∃ n, s.micro.pending = some (n, t) ∧ s.env.readAns = .normal ∧ s.env.lineRx.length < n) := by
  unfold State.waitsUntil
  refine and_congr_right fun _ => ?_
  cases s.micro
  case read | reread | probe1 | probe3 => simp [Micro.awaited, Micro.pending]; tauto
  all_goals simp [Micro.awaited, Micro.pending]

theorem State.enabled_of_waitsUntil (h : s.waitsUntil t) : s.enabled = false := by
  obtain ⟨hnow, ha | ⟨n, hp, hr, hl⟩⟩ := State.waitsUntil_iff.mp h
  · simpa [State.enabled_of_awaited ha] using hnow
  · rw [State.enabled_of_pending hp, Bool.eq_false_iff]
    intro hready
    rcases (State.readReady_iff n).mp hready with h | h | h
    · exact h hr
    · omega
    · omega

theorem State.autoTick_of_waitsUntil (h : s.waitsUntil t) : s.autoTick = s.waitedTo t := by
  obtain ⟨hnow, ha | ⟨n, hp, -, -⟩⟩ := State.waitsUntil_iff.mp h
  · have hp : s.micro.pending = none := by cases hm : s.micro <;> simp [hm, Micro.awaited] at ha <;> rfl
    simp only [State.autoTick, ha, hp, s.tick_to hnow]
  · simp only [State.autoTick, Micro.awaited_of_pending hp, hp, s.tick_to hnow]

theorem State.wantsLock_iff :
    s.wantsLock = true ↔ s.phase = .a ∧ s.hsStep = .idle ∧ s.micro = .start := by
  simp [State.wantsLock, and_assoc]

/-- Before phase A the lock of another holder keeps the sequencer back (R93). -/
theorem State.enabled_of_locked (hp : s.phase = .a) (hs : s.hsStep = .idle) (hm : s.micro = .start)
    (hl : s.lock ≠ .none) : s.enabled = false ∧ s.autoTick = s := by
  have hw : s.wantsLock = true := State.wantsLock_iff.mpr ⟨hp, hs, hm⟩
  exact ⟨by simp [State.enabled, Micro.pending, Micro.awaited, hm, hw, hl],
    by simp [State.autoTick, Micro.pending, Micro.awaited, hm]⟩

/-- Nothing else holds the sequencer back. -/
theorem State.enabled_of_free (hwait : ∀ t, ¬s.waitsUntil t)
    (hlock : ¬(s.phase = .a ∧ s.hsStep = .idle ∧ s.micro = .start ∧ s.lock ≠ .none)) : s.enabled = true := by
  cases hp : s.micro.pending with
  | some x =>
    obtain ⟨n, t⟩ := x
    rw [State.enabled_of_pending hp, State.readReady_iff]
    by_contra h
    simp only [not_or, not_not, not_le] at h
    exact hwait t (State.waitsUntil_iff.mpr ⟨h.2.2, .inr ⟨n, hp, h.1, h.2.1⟩⟩)
  | none =>
    cases ha : s.micro.awaited with
    | some t =>
      rw [State.enabled_of_awaited ha, decide_eq_true_iff]
      by_contra h
      exact hwait t (State.waitsUntil_iff.mpr ⟨not_le.mp h, .inl ha⟩)
    | none =>
      simp only [State.enabled, hp, ha, Bool.or_eq_true, Bool.not_eq_true', beq_iff_eq]
      by_cases hl : s.lock = .none
      · exact .inr hl
      · refine .inl (Bool.eq_false_iff.mpr fun hw => hlock ?_)
        obtain ⟨ha, hs, hm⟩ := State.wantsLock_iff.mp hw
        exact ⟨ha, hs, hm, hl⟩

/-! ### The turns of the agents (20_memory.md R94) -/

theorem State.popMove_eq {m : Move} {ms : List Move} (h : s.env.sched = m :: ms) :
    s.popMove = { s with env := { s.env with sched := ms } } := by
  simp [State.popMove, h]

theorem seqMoves_of_enabled (h : s.enabled = true) : seqMoves s = seqStep s := if_pos h

theorem seqMoves_of_not_enabled (h : s.enabled = false) : seqMoves s = .next s.autoTick := if_neg (by simp [h])

theorem seqTurn_of_enabled (h : s.popMove.enabled = true) : seqTurn s = seqStep s.popMove := if_pos h

theorem seqTurn_of_not_enabled (h : s.popMove.enabled = false) : seqTurn s = .next s.popMove := if_neg (by simp [h])

/-- A move taken off the schedule holds nothing back and lets nothing go on. -/
theorem State.popMove_enabled : s.popMove.enabled = s.enabled := rfl

theorem State.tick_eq (dt : Nat) :
    s.tick dt = { s with
      swP1 := if s.swP1.running then ⟨true, s.swP1.elapsed + dt⟩ else s.swP1
      swP2 := if s.swP2.running then ⟨true, s.swP2.elapsed + dt⟩ else s.swP2
      swP3 := if s.swP3.running then ⟨true, s.swP3.elapsed + dt⟩ else s.swP3
      swDisc := if s.swDisc.running then ⟨true, s.swDisc.elapsed + dt⟩ else s.swDisc
      env := { s.env with now := s.env.now + dt } } := by
  simp only [State.tick, Stopwatch.advance_eq]

theorem clkTurn_of_no_read {dt : Nat} (h : s.micro.pending = none) : clkTurn s dt = .next (s.popMove.tick dt) := by
  simp [clkTurn, h]

theorem clkTurn_of_ready {dt n : Nat} (h : s.micro.pending = some (n, t)) (hr : s.readReady n t = true) :
    clkTurn s dt = seqStep s := by
  simp [clkTurn, h, hr]

theorem clkTurn_of_short {dt n : Nat} (h : s.micro.pending = some (n, t)) (hr : s.readReady n t = false)
    (hdt : dt ≤ t - s.env.now) : clkTurn s dt = .next (s.popMove.tick dt) := by
  simp [clkTurn, h, hr, not_lt.mpr hdt]

theorem clkTurn_of_long {dt n : Nat} (h : s.micro.pending = some (n, t)) (hr : s.readReady n t = false)
    (hdt : t - s.env.now < dt) :
    clkTurn s dt = .next ((s.popMove.pushMove (.tick (dt - (t - s.env.now)))).tick (t - s.env.now)) := by
  simp [clkTurn, h, hr, hdt]

theorem State.readReady_of_lacking {n : Nat} (ha : s.env.readAns = .normal) (hl : s.env.lineRx.length < n)
    (ht : s.env.now < t) : s.readReady n t = false := by
  rw [Bool.eq_false_iff, Ne, State.readReady_iff]
  rintro (h | h | h)
  · exact h ha
  · omega
  · omega

end

/-- Settles O10: the clock's turn by the read that is pending, the line's turns by definition. -/
theorem tickAdvancesRunningStopwatches : Obligations.TickAdvancesRunningStopwatches := by
  intro s ms
  refine ⟨fun dt hs => ⟨fun h => ?_, fun n t hp => ⟨fun h => ?_, fun ha hl hnow hdt => ?_⟩⟩, fun bs hs => ?_,
    fun a hs => ?_, fun n hs => ?_⟩
  · have hturn : clkTurn s dt = .next (s.popMove.tick dt) := by
      rcases h with hp | ⟨n, t, hp, ha, hl, hnow, hdt⟩
      · exact clkTurn_of_no_read hp
      · exact clkTurn_of_short hp (State.readReady_of_lacking ha hl hnow) (by omega)
    rw [step_of_tick s hs, hturn, State.popMove_eq hs, State.tick_eq]
  · rw [step_of_tick s hs, clkTurn_of_ready hp ((State.readReady_iff n).mpr h)]
  · have hnow' : (s.popMove.pushMove (.tick (dt - (t - s.env.now)))).env.now < t := hnow
    have hrest : dt - (t - s.env.now) = s.env.now + dt - t := by omega
    rw [step_of_tick s hs, clkTurn_of_long hp (State.readReady_of_lacking ha hl hnow) (by omega)]
    refine congrArg Host.Outcome.next ((State.tick_to _ hnow').trans ?_)
    rw [State.popMove_eq hs, hrest]
    rfl
  · rw [step_of_line s hs, lineTurn, State.popMove_eq hs]
  · rw [step_of_answer s hs, answerTurn, State.popMove_eq hs]
  · rw [step_of_capWrite s hs, capTurn, State.popMove_eq hs]

/-! ### Reset (R51, R370) -/

/-- Settles O51: each element's value, by the definition of reset. -/
theorem resetValues : Obligations.ResetValues := by
  intro c
  simp [State.resetWith]

/-- What R8 asks of the parameters that the invariant speaks of. -/
theorem config_ok_parts {c : Config} (h : c.ok = true) :
    260 ≤ c.rxbufCap ∧ 2 ≤ c.txqCap ∧ c.tpDefaultReset.legal = true ∧ c.tpLimitsReset.legal = true
      ∧ c.fastIgnore ≤ 255 := by
  simp only [Config.ok, Bool.and_eq_true, decide_eq_true_iff] at h
  obtain ⟨⟨⟨⟨⟨⟨⟨⟨⟨⟨hrx, htx⟩, -⟩, -⟩, -⟩, -⟩, hdef⟩, hlim⟩, -⟩, -⟩, hign⟩ := h
  exact ⟨hrx, htx, hdef, hlim, hign⟩

/-- Settles O52: the parameters meet R8, and the timing sets have passed ENFORCE. -/
theorem resetSatisfiesInv : Obligations.ResetSatisfiesInv := by
  intro c hc
  obtain ⟨-, -, hdef, hlim, -⟩ := config_ok_parts hc
  exact {
    cfg := hc
    rxbufCap := Nat.zero_le _
    txqCap := Nat.zero_le _
    echoCap := Nat.zero_le _
    ignoreCap := Nat.zero_le _
    tpDefault := ⟨enforced_enforce _, fits_enforce hdef⟩
    tpCurrent := ⟨enforced_enforce _, fits_enforce hdef⟩
    tpLimits := ⟨enforced_enforce _, fits_enforce hlim⟩
    p2maxEff := .inl rfl
    expecting := nofun
    disconnected := fun _ => ⟨by simp [State.Quiet, State.resetWith], rfl, rfl⟩
    breakOut := nofun
    swP1 := nofun
    keyBit7 := by simp [State.resetWith]
    unsolicited := Nat.zero_lt_succ _
    unanswered := Nat.zero_lt_succ _
    attempts := fun _ => rfl
    queue := nofun
    placed := rfl
    lock := rfl
    run := fun h => absurd rfl h
    deep := nofun
    sending := nofun
    code := nofun
    terminated := nofun }

/-! ### A placed item is met (log 17) -/

/-- An item that stands at one byte. -/
theorem encode_eq_singleton {i : Instr} (h5 : i.port ≠ .char5) (hc : i.port ≠ .command) : ∃ b, encode i = [b] := by
  cases i
  case addr5 => exact absurd rfl h5
  case connect | disconnect | terminate | enqueue | setTiming | resetTiming | setBaud | readStatus | unassigned =>
    exact absurd rfl hc
  all_goals exact ⟨_, rfl⟩

theorem complement_complement (b : Byte) : complement (complement b) = b := by
  simp only [complement]; bv_omega

theorem decode_encode {i : Instr} (h : i.wf = true) : decode i.port (encode i) = .ok (i, []) := by
  simpa using decodeOfEncode i [] h

theorem head?_withHeadSid (q : List Entry) (sid : Byte) :
    ∃ e, (withHeadSid q sid).head? = some e ∧ e.msg.sid = sid := by
  cases q <;> exact ⟨_, rfl, rfl⟩

theorem getElem?_withDataByte (d : List Byte) (i : Nat) (b : Byte) : (withDataByte d i b)[i]? = some b := by
  have hlen : (d.take i ++ List.replicate (i - d.length) 0#8).length = i := by simp; omega
  rw [withDataByte, List.getElem?_append_right hlen.le, hlen, Nat.sub_self]
  rfl

section
variable (s : State) (b : Byte)

/-- A byte placed where the sequencer meets it; the wake-up pattern is always the same. -/
theorem State.fetch_present {p : Port} (h5 : p ≠ .char5) (hc : p ≠ .command) (hw : p = .wakeup → b = 0b101#8) :
    (s.present p [b]).fetch = some (p, [b]) := by
  cases p with
  | service d =>
    cases d with
    | rx => rfl
    | tx =>
      obtain ⟨e, he, rfl⟩ := head?_withHeadSid s.txq b
      simp [State.present, State.fetch, State.headItem, he]
  | complement => simp [State.present, State.fetch, State.hsItem, complement_complement]
  | wakeup => simp [State.present, State.fetch, State.hsItem, hw rfl]
  | char5 => exact absurd rfl h5
  | command => exact absurd rfl hc
  | code => simp [State.present, State.fetch, getElem?_withDataByte]
  | header | sync | key1 | key2 | addrComplement =>
    simp [State.present, State.fetch, State.hsItem, State.lineItem, State.readFails]

/-- The character placed is the one of its seven bits. -/
theorem State.fetch_present_char5 (a : BitVec 7) :
    (s.present .char5 (encode (.addr5 a))).fetch = some (.char5, encode (.addr5 a)) := by
  have hdec : decode .char5 (encode (.addr5 a)) = .ok (.addr5 a, []) := decode_encode (i := .addr5 a) rfl
  have haddr : BitVec.extractLsb' 0 7 (0#1 ++ a) = a := BitVec.extractLsb'_append_eq_right
  simp only [State.present, hdec]
  exact congrArg (fun a => some (Port.char5, encode (.addr5 a))) haddr

/-- A placed item is met at once: the schedule is empty and no wait is left. -/
theorem State.enabled_present {p : Port} (hc : p ≠ .command) (bs : List Byte) :
    (s.present p bs).enabled = true ∧ (s.present p bs).env.sched = [] := by
  cases p with
  | service d => cases d <;> exact ⟨rfl, rfl⟩
  | command => exact absurd rfl hc
  | complement => simp [State.present, State.enabled, Micro.pending, Micro.awaited, State.seqNext, State.atStep]
  | sync | addrComplement =>
    simp [State.present, State.enabled, Micro.pending, State.readReady, State.seqNext, State.atStep]
  | header | code | char5 | key1 | key2 | wakeup => exact ⟨rfl, rfl⟩

theorem step_present {i : Instr} (h : i.wf = true) :
    step (s.present i.port (encode i)) = exec i (s.present i.port (encode i)) := by
  have hdec := decode_encode h
  by_cases hc : i.port = .command
  · obtain ⟨b, bs, hbytes⟩ : ∃ b bs, encode i = b :: bs := by
      cases i <;> simp only [Instr.port, reduceCtorEq] at hc <;> exact ⟨_, _, rfl⟩
    rw [hc, hbytes] at hdec ⊢
    have hsched : (s.present .command (b :: bs)).env.sched = .host b bs :: s.env.sched := rfl
    have hlock : (s.present .command (b :: bs)).lock = .none := rfl
    rw [step_of_host _ hsched, hostTurn, hdec]
    simp [hlock]
  · obtain ⟨hen, hsched⟩ := s.enabled_present hc (encode i)
    have hfetch : (s.present i.port (encode i)).fetch = some (i.port, encode i) := by
      by_cases h5 : i.port = .char5
      · cases i <;> simp only [Instr.port, reduceCtorEq] at h5
        case addr5 a => exact s.fetch_present_char5 a
      · obtain ⟨b, hb⟩ := encode_eq_singleton h5 hc
        rw [hb]
        refine s.fetch_present b h5 hc fun hw => ?_
        cases i <;> simp only [Instr.port, reduceCtorEq] at hw
        case fastWakeup => simpa [encode] using hb.symm
    rw [step_of_empty _ hsched, seqMoves_of_enabled hen, seqStep_of_item hfetch hdec]

end

/-- Settles O55: the item at the position by `seqStep_of_item`, a placed one by `step_present`, the waits by
`enabled_of_waitsUntil`, `enabled_of_locked` and `enabled_of_free`. -/
theorem stepRunsTheDecodedItem : Obligations.StepRunsTheDecodedItem := by
  refine ⟨fun s p bs r i hen hf hd hs => ?_, fun s p bs r i ms hen hf hd hs => ?_, fun s c ops r i ms hs hd hl => ?_,
    fun s c ops x ms hs hd => ?_, fun s i hi => step_present s hi,
    fun s => ⟨fun b r hp hm hfl hdirty hb => ?_, fun k b hp hm hb => ?_, fun hp hm => ?_, fun c hp hm hc => ?_,
      fun e q hp hm hq => ?_⟩, fun s t hw => ?_, fun s hp hst hm hl => ?_, fun s hw hl => ?_⟩
  · rw [step_of_empty s hs, seqMoves_of_enabled hen, seqStep_of_item hf hd]
  · rw [step_of_seq s hs, seqTurn_of_enabled hen, seqStep_of_item hf hd]
  · have hgo : (locked i && s.lock != .none) = false := by
      rcases hl with hl | hl <;> simp [hl]
    rw [step_of_host s hs, hostTurn, hd]
    simp [hgo]
  · rw [step_of_host s hs, hostTurn, hd]
    rfl
  · simp [State.fetch, hp, hm, hfl, hdirty, hb]
  · simp [State.fetch, hp, hm, hb]
  · simp [State.fetch, hp, hm]
  · simp [State.fetch, hp, hm, hc]
  · rcases hp with hp | hp <;> rcases hm with hm | ⟨k, t, hm⟩ <;> simp [State.fetch, State.headItem, hp, hm, hq]
  · have hen := State.enabled_of_waitsUntil hw
    refine ⟨hen, fun hs => ?_, fun ms hs => ?_⟩
    · rw [step_of_empty s hs, seqMoves_of_not_enabled hen, State.autoTick_of_waitsUntil hw]
    · rw [step_of_seq s hs, seqTurn_of_not_enabled hen, State.popMove_eq hs]
  · obtain ⟨hen, htick⟩ := State.enabled_of_locked hp hst hm hl
    refine ⟨hen, fun hs => ?_, fun ms hs => ?_⟩
    · rw [step_of_empty s hs, seqMoves_of_not_enabled hen, htick]
    · rw [step_of_seq s hs, seqTurn_of_not_enabled hen, State.popMove_eq hs]
  · have hen := State.enabled_of_free hw hl
    refine ⟨hen, fun hs => ?_, fun ms hs => ?_⟩
    · rw [step_of_empty s hs, seqMoves_of_enabled hen]
    · rw [step_of_seq s hs, seqTurn_of_enabled hen, State.popMove_eq hs]

end Sys2Proof.Machine

namespace Sys2Proof.Machine

/-! ### What the sequencer leaves as it was, and what it only appends to (R47, R8, R11) -/

/-- A move of the sequencer from `s` to `t` as the outside sees it: the parameters, the time, the schedule and the
results stay, events and line calls are appended; the line calls are no writes unless `w`. -/
structure State.Extends (w : Bool) (s t : State) : Prop where
  cfg : t.cfg = s.cfg
  now : t.env.now = s.env.now
  sched : t.env.sched = s.env.sched
  replies : t.env.replies = s.env.replies
  events : ∃ l, t.events = s.events ++ l
  calls : ∃ l, t.env.lineLog = s.env.lineLog ++ l ∧ (w = false → ∀ r ∈ l, r.isWrite = false)

namespace State.Extends

variable {w : Bool} {s t u : State}

theorem refl (w : Bool) (s : State) : s.Extends w s :=
  ⟨rfl, rfl, rfl, rfl, ⟨[], by simp⟩, ⟨[], by simp⟩⟩

theorem trans (h : s.Extends w t) (h' : t.Extends w u) : s.Extends w u := by
  obtain ⟨l, hl⟩ := h.events
  obtain ⟨l', hl'⟩ := h'.events
  obtain ⟨c, hc, hw⟩ := h.calls
  obtain ⟨c', hc', hw'⟩ := h'.calls
  refine ⟨h'.cfg.trans h.cfg, h'.now.trans h.now, h'.sched.trans h.sched, h'.replies.trans h.replies,
    ⟨l ++ l', by rw [hl', hl, List.append_assoc]⟩, ⟨c ++ c', by rw [hc', hc, List.append_assoc], fun h0 r hr => ?_⟩⟩
  rcases List.mem_append.mp hr with hr | hr
  · exact hw h0 r hr
  · exact hw' h0 r hr

theorem weaken (h : s.Extends false t) : s.Extends w t := by
  obtain ⟨c, hc, hw⟩ := h.calls
  exact ⟨h.cfg, h.now, h.sched, h.replies, h.events, c, hc, fun _ => hw rfl⟩

/-- An update of the block's registers that raises the events `l`. -/
theorem of_events (l : List Event) (hcfg : t.cfg = s.cfg) (henv : t.env = s.env) (hev : t.events = s.events ++ l) :
    s.Extends w t :=
  ⟨hcfg, by rw [henv], by rw [henv], by rw [henv], ⟨l, hev⟩, ⟨[], by simp [henv]⟩⟩

/-- An update of the block's registers. -/
theorem of_registers (hcfg : t.cfg = s.cfg) (henv : t.env = s.env) (hev : t.events = s.events) : s.Extends w t :=
  of_events [] hcfg henv (by simpa using hev)

/-- Only what the line has received and how it will answer is changed. -/
theorem of_line (hcfg : t.cfg = s.cfg) (hev : t.events = s.events) (hnow : t.env.now = s.env.now)
    (hsched : t.env.sched = s.env.sched) (hrep : t.env.replies = s.env.replies)
    (hlog : t.env.lineLog = s.env.lineLog) : s.Extends w t :=
  ⟨hcfg, hnow, hsched, hrep, ⟨[], by simpa using hev⟩, ⟨[], by simpa using hlog⟩⟩

theorem raise (e : Event) : s.Extends w (s.raise e) := of_events [e] rfl rfl rfl

theorem logLine {c : LineCall} (hc : ∀ bs n, c ≠ .write bs n) : s.Extends w (s.logLine c) := by
  refine ⟨rfl, rfl, rfl, rfl, ⟨[], by simp⟩, ⟨[⟨s.env.now, c⟩], rfl, fun _ r hr => ?_⟩⟩
  obtain rfl := List.mem_singleton.mp hr
  cases c with
  | write bs n => exact absurd rfl (hc bs n)
  | setBreak | setBaud | purge => rfl

theorem lineWrite (bs : List Byte) : s.Extends true (s.lineWrite bs) :=
  ⟨rfl, rfl, rfl, rfl, ⟨[], by simp⟩, ⟨_, s.lineWrite_env_lineLog bs, nofun⟩⟩

theorem lineSetBreak (b : Bool) : s.Extends w (s.lineSetBreak b) :=
  (logLine (c := .setBreak b) (by simp)).trans (of_registers rfl rfl rfl)

theorem lineSetBaud (r : BitVec 32) : s.Extends w (s.lineSetBaud r) :=
  (logLine (c := .setBaud r) (by simp)).trans (of_registers rfl rfl rfl)

theorem linePurge (rx tx : Bool) : s.Extends w (s.linePurge rx tx) := by
  have hlog : s.Extends w (s.logLine (.purge rx tx)) := logLine (by simp)
  cases rx
  · exact hlog
  · exact hlog.trans (of_line rfl rfl rfl rfl rfl rfl)

theorem cleared : s.Extends w s.cleared := of_events _ rfl rfl (List.append_assoc ..)

theorem enterDisconnected (c : EntryCause) : s.Extends w (s.enterDisconnected c) := by
  by_cases h : s.connState = .disconnected
  · rw [State.enterDisconnected_of_down h]; exact refl w s
  · rw [State.enterDisconnected_of_live h]
    exact cleared

theorem forceDisconnect (c : ForcedCause) : s.Extends w (s.forceDisconnect c) :=
  (raise _).trans (enterDisconnected _)

theorem hsFail (c : HsCause) : s.Extends w (s.hsFail c) :=
  (((lineSetBreak false).trans (raise _)).trans (enterDisconnected .handshakeFailure)).trans (of_registers rfl rfl rfl)

theorem readDone (n : Nat) : s.Extends w (s.readDone n) := by
  unfold State.readDone
  split
  · refine trans ?_ (raise _)
    exact of_line rfl rfl rfl rfl rfl rfl
  · exact of_line rfl rfl rfl rfl rfl rfl

/-! The receive path. -/

theorem echoFilter (r : List Byte) : s.Extends w (echoFilter r s).2 := by
  induction r generalizing s with
  | nil => exact refl w s
  | cons b bs ih =>
    have hbyte : s.Extends w (echoByte b s).2 := by
      rcases echoByte_cases s b with ⟨-, h⟩ | ⟨xs, -, h⟩ | ⟨x, xs, -, -, -, h⟩ | ⟨x, xs, -, -, -, h⟩ <;> rw [h]
      · exact refl w s
      · exact of_registers rfl rfl rfl
      · exact of_registers rfl rfl rfl
      · exact of_events _ rfl rfl rfl
    exact hbyte.trans ih

theorem rxAppend (r : List Byte) : s.Extends w (s.rxAppend r) := by
  unfold State.rxAppend
  dsimp only
  split
  · refine trans ?_ (raise _)
    exact of_registers rfl rfl rfl
  · exact of_registers rfl rfl rfl

theorem receive (r : List Byte) : s.Extends w (s.receive r) := by
  have hfilter : s.Extends w (Machine.echoFilter r s).2 := echoFilter r
  rw [State.receive_eq rfl]
  split
  · exact hfilter
  split
  · exact (hfilter.trans (rxAppend _)).trans (of_registers rfl rfl rfl)
  · exact hfilter.trans (rxAppend _)

theorem drain : s.Extends w s.drain := by
  unfold State.drain
  dsimp only
  split
  · exact (readDone _).trans (receive _)
  · exact refl w s

theorem framed (m : Message) (k : Nat) (rest : List Byte) : s.Extends w (s.framed m k rest) :=
  of_events _ rfl rfl rfl

theorem header (f : Form) : s.Extends w (s.header f) := by
  have framed' (m k n) : s.Extends w (s.onFrame m k n) := by
    rw [State.onFrame_eq_framed]
    exact framed ..
  have dropped (k) : s.Extends w ((s.discardOne k).goto .start) := by
    rw [State.discardOne_goto_eq_dropped]
    exact of_events _ rfl rfl rfl
  unfold State.header
  split
  · unfold State.flushAt
    split
    · exact framed' ..
    all_goals exact of_registers rfl rfl rfl
  · unfold State.scanOnce
    split
    · exact of_registers rfl rfl rfl
    · split
      · exact framed' ..
      · exact of_registers rfl rfl rfl
      all_goals exact dropped _

theorem flushEnd : s.Extends w s.flushEnd := by
  rw [State.flushEnd_eq]
  exact of_events _ rfl rfl rfl

theorem phaseC : s.Extends w s.phaseC := by
  unfold State.phaseC
  split
  · exact of_registers rfl rfl rfl
  · split <;> exact of_registers rfl rfl rfl

/-! Dispatch. -/

theorem unsolicitedMsg (m : Message) : s.Extends w (s.unsolicitedMsg m) := by
  have hcount : s.Extends w (({ s with unsolicited := s.unsolicited + 1 } : State).raise (.unsolicitedResponse m)) :=
    of_events [.unsolicitedResponse m] rfl rfl rfl
  unfold State.unsolicitedMsg
  dsimp only
  split
  · exact hcount.trans (forceDisconnect _)
  · exact hcount

theorem deliver (m : Message) (e : Entry) : s.Extends w (s.deliver m e) := by
  unfold State.deliver
  split
  · exact refl w s
  · exact raise _

theorem captureKeys (m : Message) : s.Extends w (s.captureKeys m) := by
  unfold State.captureKeys
  split <;> exact of_registers rfl rfl rfl

theorem fastConnected : s.Extends w s.fastConnected := by
  rw [State.fastConnected_eq]
  exact of_events _ rfl rfl rfl

theorem positive (m : Message) (e : Entry) : s.Extends w (s.positive m e) := by
  unfold State.positive
  refine trans (t := { s with respCount := s.respCount + 1 }) (of_registers rfl rfl rfl) ?_
  dsimp only
  split
  · exact ((captureKeys m).trans fastConnected).trans (deliver m e)
  split
  · exact (deliver m e).trans (enterDisconnected _)
  split
  · exact refl w _
  · exact raise _

theorem negativeOther (m req : Message) : s.Extends w (s.negativeOther m req) := by
  unfold State.negativeOther
  split
  · exact forceDisconnect _
  split
  · exact of_registers rfl rfl rfl
  split
  · exact forceDisconnect _
  · exact of_events _ rfl rfl rfl

theorem negative (m : Message) (e : Entry) : s.Extends w (s.negative m e) := by
  rcases s.negative_cases m e with ⟨-, h⟩ | ⟨-, h⟩ <;> rw [h]
  · exact of_registers rfl rfl rfl
  · exact negativeOther ..

theorem dispatch (m : Message) : s.Extends w (s.dispatch m) := by
  have hgoto : s.Extends w (s.goto .start) := of_registers rfl rfl rfl
  have hmatch : s.Extends w (s.goto .start).matched := of_registers rfl rfl rfl
  unfold State.dispatch
  dsimp only
  split
  · split
    · split
      · exact hmatch.trans (positive ..)
      split
      · exact hmatch.trans (negative ..)
      · exact hgoto.trans (unsolicitedMsg m)
    · exact hgoto.trans (unsolicitedMsg m)
  · exact hgoto.trans (raise _)

/-! Transmission. -/

theorem toSleep : s.Extends w s.toSleep := of_registers rfl rfl rfl

theorem afterSend (ok : Bool) : s.Extends w (s.afterSend ok) := by
  unfold State.afterSend
  split
  · split
    · exact of_registers rfl rfl rfl
    · exact hsFail _
  · exact toSleep

theorem sent (e : Entry) (q : List Entry) (bytes : List Byte) (n : Nat) : s.Extends w (s.sent e q bytes n) := by
  unfold State.sent
  dsimp only
  split
  all_goals
    refine trans ?_ (afterSend _)
    refine trans ?_ (raise _)
    exact of_registers rfl rfl rfl

theorem sendPaced (e : Entry) (q : List Entry) (bytes : List Byte) : s.Extends true (s.sendPaced e q bytes) := by
  unfold State.sendPaced
  dsimp only
  split
  · exact (lineWrite _).trans (sent ..)
  split
  · exact (lineWrite _).trans (sent ..)
  · exact (lineWrite _).trans (of_registers rfl rfl rfl)

theorem keepAlive : s.Extends w s.keepAlive := by
  unfold State.keepAlive State.txqPush
  split
  · split <;> exact of_registers rfl rfl rfl
  · exact refl w s

/-! The handshake. -/

theorem hsBegin : s.Extends w s.hsBegin := of_events [_] rfl rfl rfl

theorem phaseA : s.Extends w s.phaseA := by
  unfold State.phaseA
  dsimp only
  split
  · exact trans (t := { s with lock := .seq }) (of_registers rfl rfl rfl) hsBegin
  · exact of_registers rfl rfl rfl

theorem afterA : s.Extends w s.afterA := by
  unfold State.afterA
  split
  · exact of_registers rfl rfl rfl
  · exact toSleep

theorem toStep (h : HsStep) : s.Extends w (s.toStep h) := of_registers rfl rfl rfl

theorem goto (m : Micro) : s.Extends w (s.goto m) := of_registers rfl rfl rfl

theorem s0Begin : s.Extends w s.s0Begin := by
  unfold State.s0Begin
  dsimp only
  split
  · exact (lineSetBreak false).trans (goto _)
  · exact ((lineSetBreak false).trans (lineSetBaud _)).trans (goto _)

theorem s2Purge : s.Extends w s.s2Purge := (linePurge true true).trans (toStep _)

theorem s3Retry : s.Extends w s.s3Retry := by
  unfold State.s3Retry
  dsimp only
  split
  · exact (readDone 1).trans (hsFail _)
  · exact ((readDone 1).trans (lineSetBaud _)).trans (goto _)

theorem takeKeys (n : Nat) : s.Extends w (s.takeKeys n) := (readDone n).trans (of_registers rfl rfl rfl)

theorem s4Read : s.Extends w s.s4Read := by
  unfold State.s4Read
  dsimp only
  split
  · exact (takeKeys 1).trans (hsFail _)
  split
  · exact (takeKeys 1).trans (goto _)
  split
  · exact (takeKeys 1).trans (goto _)
  · exact (takeKeys 1).trans (toStep _)

theorem s4Last (n : Nat) : s.Extends w (s.s4Last n) := by
  unfold State.s4Last
  dsimp only
  split
  · exact (takeKeys n).trans (hsFail _)
  split
  · exact (takeKeys n).trans (hsFail _)
  · exact (takeKeys n).trans (toStep _)

theorem s5Begin : s.Extends w s.s5Begin := by
  unfold State.s5Begin
  split <;> exact of_registers rfl rfl rfl

theorem s6Echo : s.Extends w s.s6Echo := by
  unfold State.s6Echo
  dsimp only
  split
  · exact (readDone 1).trans (hsFail _)
  split
  · exact (readDone 1).trans (toStep _)
  · exact (readDone 1).trans (hsFail _)

theorem s8Success : s.Extends w s.s8Success := of_events [_] rfl rfl rfl

theorem legacyStep : s.Extends w s.legacyStep := by
  unfold State.legacyStep
  split
  · exact of_registers rfl rfl rfl
  · exact hsFail _

theorem f0 : s.Extends w s.f0 := ((lineSetBreak false).trans (lineSetBaud _)).trans (toStep _)

theorem f4Purge : s.Extends w s.f4Purge := (linePurge true false).trans (of_registers rfl rfl rfl)

theorem f5Push : s.Extends w s.f5Push := by
  unfold State.f5Push State.txqPushHead
  by_cases hroom : s.txq.length < s.cfg.txqCap
  · rw [if_pos hroom]
    exact of_registers rfl rfl rfl
  · rw [if_neg hroom]
    exact hsFail _

theorem beginSlot (a : BitVec 7) (k : Nat) : s.Extends w (s.beginSlot a k) := (lineSetBreak _).trans (goto _)

/-! The expiry checks. -/

theorem checkP1 : s.Extends w s.checkP1 := by
  unfold State.checkP1
  split <;> exact goto _

theorem probed : s.Extends w s.probed.2 := by
  unfold State.probed
  dsimp only
  split
  · exact readDone 1
  · exact (readDone 1).trans (receive _)

theorem probeP1 : s.Extends w s.probeP1 := by
  refine trans ?_ (goto _)
  split
  · exact probed
  · refine trans ?_ (raise _)
    exact probed.trans (of_registers rfl rfl rfl)

theorem checkP3 : s.Extends w s.checkP3 := by
  unfold State.checkP3
  split <;> exact goto _

theorem probeP3 : s.Extends w s.probeP3 := by
  refine trans ?_ (goto _)
  split
  · exact probed
  · exact (probed.trans (raise _)).trans (forceDisconnect _)

theorem checkDisc : s.Extends w s.checkDisc := by
  refine trans (t := if s.discOver then s.enterDisconnected .cleanTimeout else s) ?_ (of_registers rfl rfl rfl)
  split
  · exact enterDisconnected _
  · exact refl w s

end State.Extends

/-! ### Micro-steps that may stop -/

/-- The next state of the outcome `r`, where there is one, goes on from `s`. -/
def State.ExtendsTo (w : Bool) (s : State) (r : Result) : Prop := ∀ t, r = .next t → s.Extends w t

namespace State.ExtendsTo

variable {w : Bool} {s t : State}

theorem next (h : s.Extends w t) : s.ExtendsTo w (.next t) := by
  intro u hu
  obtain rfl : t = u := by simpa using hu
  exact h

theorem fault (f : Fault) : s.ExtendsTo w (.fault f) := by
  intro t h
  simp at h

theorem refused (r : Refusal) : s.ExtendsTo w (.refused r) := by
  intro t h
  simp at h

theorem after {r : Result} (h : s.Extends w t) (hr : t.ExtendsTo w r) : s.ExtendsTo w r :=
  fun u hu => h.trans (hr u hu)

theorem transmit (sid : Byte) : s.ExtendsTo true (s.transmit sid) := by
  unfold State.transmit
  split
  · exact fault _
  dsimp only
  split
  · exact refused _
  split
  · exact next (.sendPaced ..)
  · exact next ((Extends.lineWrite _).trans (.sent ..))

theorem finalize (o : MsgOutcome) : s.ExtendsTo w (s.finalize o) := by
  cases hq : s.txq with
  | nil => simp [State.finalize, hq, fault]
  | cons e q =>
    rw [s.finalize_cons hq]
    exact next (.of_events _ rfl rfl rfl)

theorem unansweredMsg : s.ExtendsTo w s.unansweredMsg := by
  cases hq : s.txq with
  | nil => simp [State.unansweredMsg, hq, fault]
  | cons e q =>
    rw [State.unansweredMsg_cons hq]
    have hraise : s.Extends w (s.raise (.messageUnanswered e.msg e.attempts)) := .raise _
    dsimp only
    split
    · exact next ((hraise.trans (.raise _)).trans (.enterDisconnected _))
    split
    · exact next hraise
    · have hcount : s.Extends w { s.raise (.messageUnanswered e.msg e.attempts) with unanswered := s.unanswered + 1 } :=
        hraise.trans (.of_registers rfl rfl rfl)
      split
      · exact next (hcount.trans (.forceDisconnect _))
      · exact next hcount

theorem retryExhausted : s.ExtendsTo w s.retryExhausted := by
  cases hq : s.txq with
  | nil => simp [State.retryExhausted, hq, fault]
  | cons e q =>
    rw [State.retryExhausted_cons hq]
    have hfin : s.Extends w { s with
        txq := q, respCount := 0, expecting := false
        events := s.events ++ (if e.internal then [] else [.messageFinished e.msg .failed e.attempts]) } :=
      .of_events _ rfl rfl rfl
    dsimp only
    split
    · exact next ((hfin.trans .cleared).trans .toSleep)
    · exact next (hfin.trans .toSleep)

theorem phaseE : s.ExtendsTo w s.phaseE := by
  unfold State.phaseE
  split
  · refine after .keepAlive ?_
    dsimp only
    split
    · exact next .toSleep
    split
    · exact next (.goto _)
    · exact retryExhausted
  · exact next .toSleep

theorem checkP2 : s.ExtendsTo w s.checkP2 := by
  unfold State.checkP2
  split
  · dsimp only
    split
    · refine after (t := s.p2Expired) (.of_events _ rfl rfl rfl) ?_
      split
      · exact unansweredMsg
      · exact finalize _
    · exact next (.of_registers rfl rfl rfl)
  · exact next (.goto _)

theorem responseCode (c : Byte) : s.ExtendsTo w (s.responseCode c) := by
  have hgoto : s.Extends w (s.goto .start) := .goto _
  unfold State.responseCode
  dsimp only
  split
  · exact next (.of_events _ rfl rfl rfl)
  split
  · exact fault _
  split
  · exact next (.of_events _ rfl rfl rfl)
  · exact next (hgoto.trans (.negativeOther ..))

theorem hsInternal : s.ExtendsTo w s.hsInternal := by
  unfold State.hsInternal
  split
  case h_1 => exact next .s0Begin
  case h_2 => exact next (.toStep _)
  case h_3 => exact next .s2Purge
  case h_4 => exact next (.goto _)
  case h_5 => exact next .s3Retry
  case h_6 => exact next ((Extends.readDone 1).trans (.hsFail _))
  case h_7 => exact next (.of_registers rfl rfl rfl)
  case h_8 => exact next .s4Read
  case h_9 => exact next (.s4Last _)
  case h_10 => exact next .s5Begin
  case h_11 => exact next (.hsFail _)
  case h_12 => exact next (.goto _)
  case h_13 => exact next .s6Echo
  case h_14 => exact next (.goto _)
  case h_15 => exact next ((Extends.readDone 1).trans (.hsFail _))
  case h_16 => exact next .s8Success
  case h_17 => exact next .legacyStep
  case h_18 => exact next .f0
  case h_19 => exact next .f4Purge
  case h_20 => exact next .f5Push
  case h_21 => exact fault _

theorem internal : s.ExtendsTo w s.internal := by
  unfold State.internal
  split
  case h_1 => exact next .afterA
  case h_2 =>
    split
    · exact next .phaseA
    · exact hsInternal
  case h_3 => exact fault _
  case h_4 => exact hsInternal
  case h_5 => exact next (Extends.drain.trans (.of_registers rfl rfl rfl))
  case h_6 => exact next .phaseC
  case h_7 => exact next .flushEnd
  case h_8 =>
    split
    · exact fault _
    · exact next ((Extends.goto _).trans (.negativeOther ..))
  case h_9 => exact next .checkP1
  case h_10 => exact next .probeP1
  case h_11 => exact checkP2
  case h_12 => exact next .checkP3
  case h_13 => exact next .probeP3
  case h_14 => exact next .checkDisc
  case h_15 => exact phaseE
  case h_16 => exact fault _
  case h_17 => exact next (.of_registers rfl rfl rfl)
  case h_18 => exact fault _

end State.ExtendsTo

end Sys2Proof.Machine

namespace Sys2Proof

/-! ### What the decoder can give at a place -/

theorem decodeHeader_form (b : Byte) : ∃ f, (decodeHeader b).form = some f := by
  unfold decodeHeader
  dsimp only
  split_ifs <;> exact ⟨_, rfl⟩

theorem sidRows_service (d : Dir) : ∀ row ∈ sidRows, (row.2 d).service = some (row.1, d) := by
  simp [sidRows, Instr.service]

theorem decodeSid_service (d : Dir) (b : Byte) : (decodeSid d b).service = some (b, d) := by
  unfold decodeSid
  split
  · next row h =>
    have hb : row.1 = b := by simpa using List.find?_some h
    rw [sidRows_service d row (List.mem_of_find?_eq_some h), hb]
  · split <;> rfl

theorem decodeCode_responseCode (c : Byte) : (decodeCode c).responseCode = some c := by
  unfold decodeCode
  split_ifs with h h'
  · rw [h]; rfl
  · rw [h']; rfl
  · rfl

theorem decodeChar5_addr5 {lo hi : Byte} {i : Instr} (h : decodeChar5 lo hi = some i) : ∃ a, i = .addr5 a := by
  simp only [decodeChar5, Option.ite_none_right_eq_some, Option.some.injEq] at h
  exact ⟨_, h.2.symm⟩

theorem decodeKey1_kb1 {k : Byte} {i : Instr} (h : decodeKey1 k = some i) : ∃ p t u h b x, i = .kb1 p t u h b x := by
  simp only [decodeKey1, Option.ite_none_right_eq_some, Option.some.injEq] at h
  exact ⟨_, _, _, _, _, _, h.2.symm⟩

/-- Everything read at the host port is a command. -/
theorem decodeCommand_port {c : Byte} {ops r : List Byte} {i : Instr} (h : decodeCommand c ops = some (i, r)) :
    i.port = .command := by
  unfold decodeCommand at h
  split_ifs at h
  all_goals
    simp only [Option.bind_eq_bind, Option.bind_eq_some_iff, Option.pure_def, Option.some.injEq, Prod.mk.injEq] at h
  · obtain ⟨_, -, _, -, _, -, _, -, rfl, -⟩ := h; rfl
  · obtain ⟨rfl, -⟩ := h; rfl
  · obtain ⟨rfl, -⟩ := h; rfl
  · obtain ⟨_, -, _, -, rfl, -⟩ := h; rfl
  · obtain ⟨_, -, _, -, rfl, -⟩ := h; rfl
  · obtain ⟨rfl, -⟩ := h; rfl
  · obtain ⟨_, -, rfl, -⟩ := h; rfl
  · obtain ⟨_, -, rfl, -⟩ := h; rfl
  · obtain ⟨rfl, -⟩ := h; rfl

theorem decode_command_port {bs r : List Byte} {i : Instr} (h : decode .command bs = .ok (i, r)) :
    i.port = .command := by
  cases bs with
  | nil => simp [decode] at h
  | cons c ops =>
    simp only [decode] at h
    split at h
    · next x hx =>
      obtain rfl : x = (i, r) := by simpa using h
      exact decodeCommand_port hx
    · simp at h

namespace Machine

/-! ### Which items write to the line -/

/-- The places of the items that write: the head of the queue and the complement of key byte 2. -/
def writingPort : Port → Bool
  | .service .tx => true
  | .complement => true
  | _ => false

/-- The positions at which such an item is met. -/
def State.mayWrite (s : State) : Bool := s.micro.sending || s.hsStep == .s6

section
variable {s t : State}

/-- No item at the sequencer's position is a host command, and one that writes is met where `mayWrite` says. -/
theorem fetch_port {p : Port} {bs : List Byte} (h : s.fetch = some (p, bs)) :
    p ≠ .command ∧ (writingPort p = true → s.mayWrite = true) := by
  have hline (q : Port) : s.lineItem q = some (p, bs) → p = q := by
    simp only [State.lineItem, Option.ite_none_left_eq_some, Option.map_eq_some_iff, Prod.mk.injEq]
    rintro ⟨-, b, -, rfl, -⟩
    rfl
  have hhs : s.hsItem = some (p, bs) → p ≠ .command ∧ (writingPort p = true → s.mayWrite = true) := by
    unfold State.hsItem
    split
    all_goals intro hi
    case h_3 | h_4 | h_8 => rw [hline _ hi]; simp [writingPort]
    case h_5 | h_6 | h_7 =>
      obtain ⟨b, -, hb⟩ := Option.map_eq_some_iff.mp hi
      obtain ⟨rfl, -⟩ := Prod.mk.inj hb
      simp_all [writingPort, State.mayWrite]
    case h_15 => simp at hi
    all_goals
      obtain ⟨rfl, -⟩ := Prod.mk.inj (Option.some.inj hi)
      simp [writingPort]
  have hhead (hm : s.micro.sending = true) :
      s.headItem = some (p, bs) → p ≠ .command ∧ (writingPort p = true → s.mayWrite = true) := by
    simp only [State.headItem, Option.map_eq_some_iff, Prod.mk.injEq]
    rintro ⟨b, -, rfl, -⟩
    simp [writingPort, State.mayWrite, hm]
  unfold State.fetch at h
  split at h
  case h_1 hm | h_8 hm => exact hhead (by simp [hm, Micro.sending]) h
  case h_2 hm | h_9 hm => exact hhead (by simp [hm, Micro.sending]) h
  case h_3 => exact hhs h
  case h_4 =>
    simp only [Option.ite_none_right_eq_some, Option.map_eq_some_iff, Prod.mk.injEq] at h
    obtain ⟨-, b, -, rfl, -⟩ := h
    simp [writingPort]
  case h_5 | h_7 =>
    simp only [Option.map_eq_some_iff, Prod.mk.injEq] at h
    obtain ⟨b, -, rfl, -⟩ := h
    simp [writingPort]
  case h_6 =>
    obtain ⟨rfl, -⟩ := Prod.mk.inj (Option.some.inj h)
    simp [writingPort]
  case h_10 => simp at h

/-- The meaning of an item of the sequencer, by its place. -/
theorem exec_extends {p : Port} {bs r : List Byte} {i : Instr} (hp : p ≠ .command) (h : decode p bs = .ok (i, r)) :
    s.ExtendsTo (writingPort p) (exec i s) := by
  cases bs with
  | nil => simp [decode] at h
  | cons b bs =>
    cases p with
    | header =>
      obtain ⟨rfl, -⟩ := Prod.mk.inj (Except.ok.inj h)
      obtain ⟨f, hf⟩ := decodeHeader_form b
      rw [exec_of_form s hf]
      exact .next (.header f)
    | service d =>
      obtain ⟨rfl, -⟩ := Prod.mk.inj (Except.ok.inj h)
      have hs := decodeSid_service d b
      cases d with
      | rx =>
        rw [exec_of_service_rx s hs]
        exact .next (.dispatch _)
      | tx =>
        rw [exec_of_service_tx s hs]
        exact .transmit b
    | code =>
      obtain ⟨rfl, -⟩ := Prod.mk.inj (Except.ok.inj h)
      rw [exec_of_responseCode s (decodeCode_responseCode b)]
      exact .responseCode b
    | sync =>
      simp only [decode] at h
      split at h
      · obtain ⟨rfl, -⟩ := Prod.mk.inj (Except.ok.inj h)
        exact .next ((State.Extends.readDone 1).trans (.toStep _))
      · simp at h
    | char5 =>
      simp only [decode] at h
      split at h
      · simp at h
      · split at h
        · next i' hi =>
          obtain ⟨rfl, -⟩ := Prod.mk.inj (Except.ok.inj h)
          obtain ⟨a, rfl⟩ := decodeChar5_addr5 hi
          show s.ExtendsTo _ (execAddr5 a s)
          unfold execAddr5
          split
          · split
            · exact .next (.beginSlot ..)
            · exact .next (.toStep _)
          · refine .after (t := { s with hsT0 := s.env.now }) (.of_registers rfl rfl rfl) (.next (.beginSlot ..))
        · simp at h
    | key1 =>
      simp only [decode] at h
      split at h
      · next i' hi =>
        obtain ⟨rfl, -⟩ := Prod.mk.inj (Except.ok.inj h)
        obtain ⟨p, t, u, h', b, x, rfl⟩ := decodeKey1_kb1 hi
        show s.ExtendsTo _ (execKb1 p t u h' b x s)
        unfold execKb1
        split
        · exact .next (.goto _)
        · exact .next (.hsFail _)
      · simp at h
    | key2 =>
      obtain ⟨rfl, -⟩ := Prod.mk.inj (Except.ok.inj h)
      show s.ExtendsTo _ (execKb2 _ _ s)
      unfold execKb2
      split
      · exact .next (.of_registers rfl rfl rfl)
      · exact .next (.hsFail _)
    | complement =>
      obtain ⟨rfl, -⟩ := Prod.mk.inj (Except.ok.inj h)
      show s.ExtendsTo _ (execKb2Complement b s)
      unfold execKb2Complement
      dsimp only
      split
      · exact .next (((State.Extends.lineWrite _).trans (.raise _)).trans (.hsFail _))
      split
      · exact .next ((State.Extends.lineWrite _).trans (.goto _))
      · exact .next ((State.Extends.lineWrite _).trans (.toStep _))
    | addrComplement =>
      obtain ⟨rfl, -⟩ := Prod.mk.inj (Except.ok.inj h)
      show s.ExtendsTo _ (execAddrComplement b s)
      unfold execAddrComplement
      dsimp only
      split
      · exact .next ((State.Extends.readDone 1).trans (.toStep _))
      · exact .next ((State.Extends.readDone 1).trans (.hsFail _))
    | wakeup =>
      simp only [decode] at h
      split at h
      · obtain ⟨rfl, -⟩ := Prod.mk.inj (Except.ok.inj h)
        show s.ExtendsTo _ (execFastWakeup s)
        unfold execFastWakeup
        split
        case h_1 => exact .next (.goto _)
        case h_2 | h_4 | h_6 => exact .next (.toStep _)
        case h_3 =>
          refine .after (t := { s with hsT0 := s.env.now }) (.of_registers rfl rfl rfl) (.next ?_)
          exact (State.Extends.lineSetBreak true).trans (.goto _)
        case h_5 => exact .next ((State.Extends.lineSetBreak false).trans (.goto _))
        case h_7 => exact .fault _
      · simp at h
    | command => exact absurd rfl hp

theorem seqStep_extends (s : State) : s.ExtendsTo s.mayWrite (seqStep s) := by
  rcases seqStep_cases s with ⟨p, bs, i, r, hf, hd, h⟩ | h <;> rw [h]
  · obtain ⟨hp, hw⟩ := fetch_port hf
    intro t ht
    cases hwp : writingPort p with
    | true => exact hw hwp ▸ (hwp ▸ exec_extends hp hd) t ht
    | false => exact .weaken ((hwp ▸ exec_extends hp hd) t ht)
  · exact .internal

end

/-! ### The host's commands and the other agents -/

/-- A host command extends the histories, writes nothing, and is answered. -/
theorem command_answered {s t : State} {i : Instr} (hp : i.port = .command) (h : exec i s = .next t) :
    ∃ u r, s.Extends false u ∧ t = u.replied r := by
  have refused (c : Byte) (x : RefuseReason) (u : State) (hu : .next (s.refuse c x) = (.next u : Result)) :
      ∃ v r, s.Extends false v ∧ u = v.replied r :=
    ⟨s.raise (.commandRefused c x), .refused x, .raise _, (Host.Outcome.next.inj hu).symm⟩
  have answered {v u : State} {r : Reply} (hu : .next (v.answer r) = (.next u : Result)) (hv : s.Extends false v) :
      ∃ v r, s.Extends false v ∧ u = v.replied r :=
    ⟨v, r, hv, (Host.Outcome.next.inj hu).symm⟩
  cases i <;> simp only [Instr.port, reduceCtorEq] at hp
  case connect mode addr second n =>
    change execConnect mode addr second n s = _ at h
    unfold execConnect at h
    split_ifs at h
    · exact refused _ _ _ h
    · exact refused _ _ _ h
    · exact answered h (.of_registers rfl rfl rfl)
  case disconnect =>
    change execDisconnect s = _ at h
    unfold execDisconnect at h
    split at h
    · exact answered h (.of_registers rfl rfl rfl)
    · refine answered h (.trans (t := { s with attemptsLeft := 0 }) ?_ (.enterDisconnected _))
      exact .of_registers rfl rfl rfl
    · refine answered h ?_
      rw [State.beginDisconnect_eq]
      exact .of_events _ rfl rfl rfl
    · exact answered h (.refl _ s)
    · exact refused _ _ _ h
  case terminate =>
    refine answered h ?_
    split_ifs
    · exact .refl _ s
    · exact (State.Extends.enterDisconnected .terminated).trans (.of_events [_] rfl rfl rfl)
  case enqueue m probe =>
    change execEnqueue m probe s = _ at h
    rw [execEnqueue_eq] at h
    split_ifs at h
    · exact refused _ _ _ h
    · exact refused _ _ _ h
    · exact refused _ _ _ h
    · exact answered h (.of_registers rfl rfl rfl)
  case setTiming which tp =>
    change execSetTiming which tp s = _ at h
    unfold execSetTiming at h
    split_ifs at h
    · exact refused _ _ _ h
    · refine answered h ?_
      cases which <;> exact .of_registers rfl rfl rfl
    · exact refused _ _ _ h
  case resetTiming =>
    change execResetTiming s = _ at h
    unfold execResetTiming at h
    split_ifs at h
    · exact refused _ _ _ h
    · exact answered h (.of_registers rfl rfl rfl)
  case setBaud rate =>
    change execSetBaud rate s = _ at h
    unfold execSetBaud at h
    split_ifs at h
    · exact refused _ _ _ h
    · exact refused _ _ _ h
    · exact answered h (.lineSetBaud rate)
  case readStatus e => exact answered h (.refl _ s)
  case unassigned c => exact refused _ _ _ h

/-- Nothing but time has passed and the environment has settled what it will give: the turn of the clock or of the line,
or of an agent that waits. -/
def State.Passed (s t : State) : Prop :=
  ∃ dt env, env.now = s.env.now + dt ∧ env.lineLog = s.env.lineLog ∧ env.replies = s.env.replies
    ∧ t = { s.tick dt with env := env }

theorem State.Passed.of_env {s : State} {env : Env} (hnow : env.now = s.env.now) (hlog : env.lineLog = s.env.lineLog)
    (hrep : env.replies = s.env.replies) : s.Passed { s with env := env } := by
  have htick (w : Stopwatch) : w.advance 0 = w := by cases w; simp [Stopwatch.advance]
  exact ⟨0, env, hnow, hlog, hrep, by simp [State.tick, htick]⟩

theorem State.Passed.tick {s u : State} (hu : u = { s with env := u.env }) (hnow : u.env.now = s.env.now)
    (hlog : u.env.lineLog = s.env.lineLog) (hrep : u.env.replies = s.env.replies) (dt : Nat) : s.Passed (u.tick dt) :=
  ⟨dt, { u.env with now := u.env.now + dt }, by rw [hnow], hlog, hrep, by rw [hu]; rfl⟩

theorem State.Passed.popMove (s : State) : s.Passed s.popMove := .of_env rfl rfl rfl

theorem State.Passed.autoTick (s : State) : s.Passed s.autoTick := by
  unfold State.autoTick
  split
  · exact .tick rfl rfl rfl rfl _
  · exact .tick rfl rfl rfl rfl _
  · exact .of_env rfl rfl rfl

/-- What a step is: a micro-step of the sequencer, a host command that runs, one that cannot be read, or none of
these. -/
theorem step_cases (s : State) :
    (∃ u, (u = s ∨ u = s.popMove) ∧ step s = seqStep u)
      ∨ (∃ t, s.Passed t ∧ step s = .next t)
      ∨ (∃ c ops ms i r, s.env.sched = .host c ops :: ms ∧ decode .command (c :: ops) = .ok (i, r)
          ∧ (locked i = true → s.lock = .none) ∧ step s = exec i s)
      ∨ (∃ c ops ms, s.env.sched = .host c ops :: ms ∧ step s = .next (s.refused c .badOperand)) := by
  have hseq : (∃ u, (u = s ∨ u = s.popMove) ∧ seqMoves s = seqStep u) ∨ (∃ t, s.Passed t ∧ seqMoves s = .next t) := by
    cases h : s.enabled
    · exact .inr ⟨_, .autoTick s, seqMoves_of_not_enabled h⟩
    · exact .inl ⟨s, .inl rfl, seqMoves_of_enabled h⟩
  match hs : s.env.sched with
  | [] =>
    rw [step_of_empty s hs]
    exact hseq.imp_right .inl
  | .seq :: ms =>
    rw [step_of_seq s hs]
    cases h : s.popMove.enabled
    · exact .inr (.inl ⟨_, .popMove s, seqTurn_of_not_enabled h⟩)
    · exact .inl ⟨_, .inr rfl, seqTurn_of_enabled h⟩
  | .tick dt :: ms =>
    rw [step_of_tick s hs]
    unfold clkTurn
    split
    · refine .inr (.inl ⟨_, ?_, rfl⟩)
      apply State.Passed.tick <;> rfl
    split
    · exact .inl ⟨s, .inl rfl, rfl⟩
    split
    · refine .inr (.inl ⟨_, ?_, rfl⟩)
      apply State.Passed.tick <;> rfl
    · refine .inr (.inl ⟨_, ?_, rfl⟩)
      apply State.Passed.tick <;> rfl
  | .line bs :: ms =>
    refine .inr (.inl ⟨_, ?_, step_of_line s hs⟩)
    exact .of_env rfl rfl rfl
  | .answer a :: ms =>
    refine .inr (.inl ⟨_, ?_, step_of_answer s hs⟩)
    exact .of_env rfl rfl rfl
  | .capWrite n :: ms =>
    refine .inr (.inl ⟨_, ?_, step_of_capWrite s hs⟩)
    exact .of_env rfl rfl rfl
  | .host c ops :: ms =>
    rw [step_of_host s hs]
    unfold hostTurn
    split
    · next i r hd =>
      split
      · exact hseq.imp_right .inl
      · next hl =>
        refine .inr (.inr (.inl ⟨c, ops, ms, i, r, rfl, hd, fun h => ?_, rfl⟩))
        simpa [h] using hl
    · exact .inr (.inr (.inr ⟨c, ops, ms, rfl, rfl⟩))

/-- Settles O57: the sequencer and the commands extend the histories, a wait leaves them. -/
theorem historiesOnlyGrow : Obligations.HistoriesOnlyGrow := by
  intro s t ht
  rcases step_cases s with ⟨u, hu, h⟩ | ⟨v, ⟨dt, env, hnow, hlog, hrep, rfl⟩, h⟩ | ⟨c, ops, ms, i, r, -, hd, -, h⟩ |
    ⟨c, ops, ms, -, h⟩ <;> rw [h] at ht
  · obtain ⟨hcfg, hnow, -, hrep, hev, l, hl, -⟩ := seqStep_extends u t ht
    have hsame : u.events = s.events ∧ u.cfg = s.cfg ∧ u.env.lineLog = s.env.lineLog ∧ u.env.replies = s.env.replies
        ∧ u.env.now = s.env.now := by
      rcases hu with rfl | rfl <;> simp
    obtain ⟨h1, h2, h3, h4, h5⟩ := hsame
    exact ⟨h1 ▸ hev, ⟨l, h3 ▸ hl⟩, ⟨[], by simp [hrep, h4]⟩, by rw [hnow, h5], by rw [hcfg, h2]⟩
  · obtain rfl := Host.Outcome.next.inj ht
    exact ⟨⟨[], by simp⟩, ⟨[], by simp [hlog]⟩, ⟨[], by simp [hrep]⟩, by simp [hnow], rfl⟩
  · obtain ⟨u, y, ⟨hcfg, hnow, -, hrep, hev, l, hl, -⟩, rfl⟩ := command_answered (decode_command_port hd) ht
    exact ⟨hev, ⟨l, hl⟩, ⟨[y], congrArg (· ++ [y]) hrep⟩, hnow.ge, hcfg⟩
  · obtain rfl := Host.Outcome.next.inj ht
    exact ⟨⟨_, rfl⟩, ⟨[], by simp [State.refused]⟩, ⟨_, rfl⟩, le_rfl, rfl⟩

/-- Settles O56: the command stays at the port because no micro-step touches the schedule or the results. -/
theorem lockedCommandWaits : Obligations.LockedCommandWaits := by
  intro s c ops r i ms hs hd hl hlock
  have hstep : step s = seqMoves s := by
    rw [step_of_host s hs, hostTurn, hd]
    simp [hl, hlock]
  refine ⟨hstep, fun he => hstep.trans (seqMoves_of_enabled he), fun t ht => ?_, fun t ht => ?_⟩
  · rw [hstep, seqMoves_of_not_enabled (State.enabled_of_waitsUntil ht), State.autoTick_of_waitsUntil ht]
  · rw [hstep] at ht
    cases he : s.enabled
    · rw [seqMoves_of_not_enabled he] at ht
      obtain rfl := Host.Outcome.next.inj ht
      unfold State.autoTick
      split <;> simp
    · rw [seqMoves_of_enabled he] at ht
      have hext := seqStep_extends s t ht
      exact ⟨hext.sched, hext.replies⟩

/-- A write to the line is only met where no echo and no response is outstanding. -/
theorem State.Inv.not_mayWrite {s : State} (h : s.Inv) (ho : s.echoFifo ≠ [] ∨ s.expecting = true) :
    s.mayWrite = false := by
  have hclear (he : s.echoFifo = []) (hx : s.expecting = false) : False := by simp [he, hx] at ho
  rw [Bool.eq_false_iff]
  intro hw
  rcases Bool.or_eq_true_iff.mp hw with hsend | h6
  · obtain ⟨-, he, hx⟩ := h.sending hsend
    exact hclear he hx
  · obtain ⟨-, -, -, -, he, -, hx, -⟩ := h.run (by simp [beq_iff_eq.mp h6])
    exact hclear he hx

/-- Settles O59: what the step appends to the line calls are no writes. -/
theorem noWriteWhileEchoOutstanding : Obligations.NoWriteWhileEchoOutstanding := by
  intro s t hinv ho ht
  have hdrop {l : List LineRec} (hl : t.env.lineLog = s.env.lineLog ++ l) (hw : ∀ r ∈ l, r.isWrite = false) :
      ∀ r ∈ t.env.lineLog.drop s.env.lineLog.length, r.isWrite = false := by
    rw [hl, List.drop_left]
    exact hw
  rcases step_cases s with ⟨u, hu, h⟩ | ⟨v, ⟨dt, env, -, hlog, -, rfl⟩, h⟩ | ⟨c, ops, ms, i, r, -, hd, -, h⟩ |
    ⟨c, ops, ms, -, h⟩ <;> rw [h] at ht
  · obtain ⟨l, hl, hw⟩ := (seqStep_extends u t ht).calls
    have hsame : u.mayWrite = s.mayWrite ∧ u.env.lineLog = s.env.lineLog := by
      rcases hu with rfl | rfl <;> exact ⟨rfl, rfl⟩
    exact hdrop (hsame.2 ▸ hl) (hw (hsame.1.trans (hinv.not_mayWrite ho)))
  · obtain rfl := Host.Outcome.next.inj ht
    exact hdrop (l := []) (by simpa using hlog) (by simp)
  · obtain ⟨u, y, hext, rfl⟩ := command_answered (decode_command_port hd) ht
    obtain ⟨l, hl, hw⟩ := hext.calls
    exact hdrop hl (hw rfl)
  · obtain rfl := Host.Outcome.next.inj ht
    exact hdrop (l := []) (by simp [State.refused]) (by simp)

end Machine

end Sys2Proof

namespace Sys2Proof.Machine

/-! ### The invariant in two parts

What holds of the registers wherever the sequencer stands (`Core`), and what the sequencer's position adds to it. -/

/-- The part of the invariant that does not speak of the sequencer's position. -/
structure State.Core (s : State) : Prop where
  cfg : s.cfg.ok = true
  rxbufCap : s.rxbuf.length ≤ s.cfg.rxbufCap
  txqCap : s.txq.length ≤ s.cfg.txqCap
  echoCap : s.echoFifo.length ≤ Fixed.maxFrame
  ignoreCap : s.ignoreCnt ≤ 255
  tpDefault : s.tpDefault.enforced = true ∧ s.tpDefault.fits = true
  tpCurrent : s.tpCurrent.enforced = true ∧ s.tpCurrent.fits = true
  tpLimits : s.tpLimits.enforced = true ∧ s.tpLimits.fits = true
  p2maxEff : s.p2maxEff = s.tpCurrent.p2max ∨ s.p2maxEff = s.tpCurrent.p3max
  expecting : s.expecting = true → ∃ e q, s.txq = e :: q ∧ 1 ≤ e.attempts
  disconnected : s.connState = .disconnected ∨ s.connState = .communicationTerminated →
    s.Quiet ∧ s.txq = [] ∧ s.ignoreCnt = 0
  swP1 : s.swP1.running = true → s.rxbuf ≠ []
  keyBit7 : s.keyByte1.getLsbD 7 = false ∧ s.keyByte2.getLsbD 7 = false
  unsolicited : s.unsolicited < Fixed.maxUnsolicited
  unanswered : s.unanswered < Fixed.maxUnanswered
  attempts : s.connState = .connected ∨ s.connState = .disconnectionPending ∨ s.connState = .communicationTerminated →
    s.attemptsLeft = 0
  queue : ∀ e ∈ s.txq, serializable e.msg = true

theorem State.Inv.core {s : State} (h : s.Inv) : s.Core := { h with }

theorem State.iterates_iff (s : State) :
    s.iterates = true ↔ ¬(s.connState = .disconnected ∨ s.connState = .communicationTerminated) := by
  cases h : s.connState <;> simp [State.iterates, h]

theorem State.live_of_pending {s : State} (h : s.connState = .connectionPending) : s.iterates = true := by
  simp [State.iterates, h]

theorem State.ne_disconnected {s : State} (h : s.iterates = true) : s.connState ≠ .disconnected :=
  fun hd => s.iterates_iff.mp h (.inl hd)

theorem State.ne_terminated {s : State} (h : s.iterates = true) : s.connState ≠ .communicationTerminated :=
  fun hd => s.iterates_iff.mp h (.inr hd)

/-- The echo filter changes nothing but the echo state. -/
theorem echoFilter_same (r : List Byte) (s : State) : (echoFilter r s).2 = { s with
    echoFifo := (echoFilter r s).2.echoFifo, ignoreCnt := (echoFilter r s).2.ignoreCnt
    foundEcho := (echoFilter r s).2.foundEcho, events := (echoFilter r s).2.events } := by
  induction r generalizing s with
  | nil => rfl
  | cons b bs ih =>
    have hcons : (echoFilter (b :: bs) s).2 = (echoFilter bs (echoByte b s).2).2 := rfl
    rw [hcons, ih]
    rcases echoByte_cases s b with ⟨-, e⟩ | ⟨xs, -, e⟩ | ⟨x, xs, -, -, -, e⟩ | ⟨x, xs, -, -, -, e⟩ <;> rw [e]

/-- A received read changes nothing but the echo state, the buffer and its stopwatches. -/
theorem State.receive_same (s : State) (r : List Byte) : s.receive r = { s with
    echoFifo := (s.receive r).echoFifo, ignoreCnt := (s.receive r).ignoreCnt, foundEcho := (s.receive r).foundEcho
    events := (s.receive r).events, rxbuf := (s.receive r).rxbuf, rxDirty := (s.receive r).rxDirty
    swP1 := (s.receive r).swP1, swP2 := (s.receive r).swP2 } := by
  have hfilter := echoFilter_same r s
  have happend (t : State) (bs : List Byte) : t.rxAppend bs = { t with
      rxbuf := (t.rxAppend bs).rxbuf, rxDirty := (t.rxAppend bs).rxDirty, events := (t.rxAppend bs).events } := by
    unfold State.rxAppend
    dsimp only
    split <;> rfl
  rw [State.receive_eq rfl]
  split
  · rw [hfilter]
  split
  · rw [happend, hfilter]
    rfl
  · rw [happend, hfilter]

namespace State.Core

variable {s t : State}

theorem live_of_not_quiet (h : s.Core) (hq : ¬s.Quiet) : s.iterates = true :=
  s.iterates_iff.mpr fun hd => hq (h.disconnected hd).1

theorem of_registers (h : s.Core) (ht : t = { s with
    phase := t.phase, hsStep := t.hsStep, hsAddr := t.hsAddr, hsT0 := t.hsT0, hsKb := t.hsKb, hsKind := t.hsKind
    hsChained := t.hsChained, lock := t.lock, events := t.events, micro := t.micro, frame := t.frame, env := t.env
    breakOut := t.breakOut, baud := t.baud }) : t.Core := by
  rw [ht]
  exact { h with }

/-- The cleared registers satisfy the invariant whatever was cleared. -/
theorem cleared (h : s.Core) (hcfg : t.cfg = s.cfg) (hdef : t.tpDefault = s.tpDefault)
    (hlim : t.tpLimits = s.tpLimits) : t.cleared.Core where
  cfg := (congrArg Config.ok hcfg).trans h.cfg
  rxbufCap := Nat.zero_le _
  txqCap := Nat.zero_le _
  echoCap := Nat.zero_le _
  ignoreCap := Nat.zero_le _
  tpDefault := by simpa only [State.cleared, hdef] using h.tpDefault
  tpCurrent := by simpa only [State.cleared, hdef] using h.tpDefault
  tpLimits := by simpa only [State.cleared, hlim] using h.tpLimits
  p2maxEff := .inl rfl
  expecting := nofun
  disconnected := fun _ => ⟨by simp [State.Quiet, State.cleared], rfl, rfl⟩
  swP1 := nofun
  keyBit7 := by simp [State.cleared]
  unsolicited := Nat.zero_lt_succ _
  unanswered := Nat.zero_lt_succ _
  attempts := nofun
  queue := nofun

/-! The receive path, over a live connection. -/

theorem echoByte (h : s.Core) (b : Byte) : (echoByte b s).2.Core := by
  have notDown {x : Byte} {xs : List Byte} (hx : s.echoFifo = x :: xs) :
      ¬(s.connState = .disconnected ∨ s.connState = .communicationTerminated) := by
    intro hd
    obtain ⟨⟨-, -, -, he, -⟩, -⟩ := h.disconnected hd
    simp [he] at hx
  have hcap := h.echoCap
  rcases echoByte_cases s b with ⟨-, e⟩ | ⟨xs, hx, e⟩ | ⟨x, xs, hx, -, -, e⟩ | ⟨x, xs, hx, -, -, e⟩ <;> rw [e]
  · exact h
  · exact { h with
      echoCap := by simp only [hx, List.length_cons] at hcap; exact Nat.le_of_succ_le hcap
      ignoreCap := Nat.zero_le _
      disconnected := fun hd => absurd hd (notDown hx) }
  · exact { h with
      ignoreCap := (Nat.sub_le ..).trans h.ignoreCap
      disconnected := fun hd => absurd hd (notDown hx) }
  · exact { h with
      echoCap := Nat.zero_le _
      ignoreCap := Nat.zero_le _
      disconnected := fun hd => absurd hd (notDown hx) }

theorem echoFilter (h : s.Core) (r : List Byte) : (echoFilter r s).2.Core := by
  induction r generalizing s with
  | nil => exact h
  | cons b bs ih => exact ih (h.echoByte b)

theorem receive (h : s.Core) (hlive : s.iterates = true) (r : List Byte) : (s.receive r).Core := by
  obtain ⟨r', u, he⟩ : ∃ r' u, Machine.echoFilter r s = (r', u) := ⟨_, _, rfl⟩
  have hu : u.Core := by
    have hfilter := h.echoFilter r
    rwa [he] at hfilter
  have hc : u.connState = s.connState := by
    have hconn := congrArg State.connState (echoFilter_same r s)
    rwa [he] at hconn
  have hlive' : ¬(u.connState = .disconnected ∨ u.connState = .communicationTerminated) := by
    rw [hc]
    exact s.iterates_iff.mp hlive
  by_cases hne : r' = []
  · subst hne
    rwa [State.receive_of_no_data he]
  by_cases hroom : u.rxbuf.length < u.cfg.rxbufCap
  · rw [State.receive_of_room he hne hroom]
    have hcap : u.cfg.rxbufCap ≠ 0 := by omega
    exact { hu with
      rxbufCap := List.length_take_le ..
      disconnected := fun hd => absurd hd hlive'
      swP1 := fun _ => by simp [hne, hcap] }
  · rw [State.receive_of_full he hne (not_lt.mp hroom)]
    exact hu.of_registers rfl

end State.Core

/-! ### A change of the connection state (R252) -/

/-- `CONN_STATE` goes along the table, not to CommunicationTerminated, and the change is reported; or it stays. -/
def State.ConnMove (s t : State) : Prop :=
  t.connState = s.connState
    ∨ (connEdge s.connState t.connState = true ∧ t.connState ≠ .communicationTerminated
        ∧ ∃ l, t.events = s.events ++ l ∧ .connStateChanged s.connState t.connState ∈ l)

/-- The end of a live connection: `u` is the state before it is cleared. -/
theorem State.ConnMove.of_cleared {s u t : State} (hlive : s.iterates = true) (hu : u.connState = s.connState)
    (hev : ∃ l, u.events = s.events ++ l) (ht : t.connState = .disconnected) (hte : t.events = u.cleared.events) :
    s.ConnMove t := by
  obtain ⟨l, hl⟩ := hev
  refine .inr ⟨?_, by simp [ht], l ++ failEvents u.txq ++ [.connStateChanged u.connState .disconnected], ?_, ?_⟩
  · rw [ht]
    cases hc : s.connState <;> simp [State.iterates, hc] at hlive <;> rfl
  · simp [hte, State.cleared, hl]
  · simp [ht, hu]

/-- A micro-step from `s` does not stop, keeps the invariant, and moves the connection state as R252 says. -/
def State.Keeps (s : State) (r : Result) : Prop := ∃ t, r = .next t ∧ t.Inv ∧ s.ConnMove t

/-! ### Inside an iteration (phases B to E) -/

/-- The registers while the sequencer is past phase A: no run, the lock held, no break. -/
structure State.Busy (s : State) : Prop where
  core : s.Core
  hsStep : s.hsStep = .idle
  breakOut : s.breakOut = false
  lock : s.lock = .seq
  live : s.connState ≠ .communicationTerminated

/-- Where the sequencer can stand in an iteration, but for a response code and a transmission; `live` where the position
is only reached over a live connection. -/
def stands (p : Phase) (m : Micro) (live : Bool) : Bool :=
  match p with
  | .a => false
  | .b => m == .start && live
  | .c => m == .start || ((m.flushing || m == .dispatch) && live)
  | .d => m == .start || (m.probing && live) || m == .checkP2 || m == .checkP3 || m == .checkDisc
  | .e => m == .start
  | .sleep => false

namespace State.Busy

variable {s t : State}

theorem of_registers (h : s.Busy) (ht : t = { s with
    phase := t.phase, micro := t.micro, frame := t.frame, events := t.events, env := t.env }) : t.Busy := by
  rw [ht]
  exact ⟨h.core.of_registers rfl, h.hsStep, h.breakOut, h.lock, h.live⟩

/-- The invariant at a position of an iteration. -/
theorem inv_of_not_a (h : s.Busy) (ha : s.phase ≠ .a) (hs : s.phase ≠ .sleep) (hp : s.placed = true)
    (hdeep : s.deep = true → s.iterates = true)
    (hsend : s.micro.sending = true → s.txq ≠ [] ∧ s.echoFifo = [] ∧ s.expecting = false)
    (hcode : s.micro = .code → s.expecting = true) : s.Inv :=
  { h.core with
    breakOut := by simp [h.breakOut]
    placed := hp
    lock := by simp [h.lock, State.between, State.wantsLock, ha, hs]
    run := fun hr => absurd h.hsStep hr
    deep := hdeep
    sending := hsend
    code := hcode
    terminated := fun ht => absurd ht h.live }

theorem inv_at {p : Phase} {m : Micro} (h : s.Busy) (hp : s.phase = p) (hm : s.micro = m)
    (hst : stands p m s.iterates = true) : s.Inv := by
  subst hp hm
  have hsend : s.micro.sending = false := by
    cases hp : s.phase <;> cases hm : s.micro <;> simp_all [stands, Micro.sending, Micro.flushing, Micro.probing]
  have hcode : s.micro ≠ .code := by
    intro hm
    cases hp : s.phase <;> simp_all [stands, Micro.flushing, Micro.probing]
  have hplaced : s.placed = true := by
    cases hp : s.phase <;> cases hm : s.micro <;>
      simp_all [stands, State.placed, h.hsStep, Micro.flushing, Micro.probing]
  have hdeep (hd : s.deep = true) : s.iterates = true := by
    cases hp : s.phase <;> cases hm : s.micro <;>
      simp_all [stands, State.deep, Micro.sending, Micro.flushing, Micro.probing]
  refine h.inv_of_not_a (fun ha => ?_) (fun ha => ?_) hplaced hdeep (by simp [hsend]) fun hm => absurd hm hcode
  · simp [ha, stands] at hst
  · simp [ha, stands] at hst

theorem asleep (h : s.Busy) : s.asleep.Inv :=
  { h.core.of_registers (t := s.asleep) rfl with
    breakOut := fun hb => by simp [State.asleep, h.breakOut] at hb
    placed := by simp [State.placed, State.asleep, h.hsStep, Micro.waiting]
    lock := by simp [State.asleep, State.between]
    run := fun hr => absurd h.hsStep hr
    deep := by simp [State.deep, State.asleep, Micro.flushing, Micro.probing, Micro.sending]
    sending := by simp [State.asleep, Micro.sending]
    code := by simp [State.asleep]
    terminated := fun _ => .inr rfl }

/-- The registers at a position of an iteration. -/
theorem of_inv (h : s.Inv) (ha : s.phase ≠ .a) (hs : s.phase ≠ .sleep) : s.Busy := by
  have hidle : s.hsStep = .idle := by
    have hp := h.placed
    cases hph : s.phase <;> simp [State.placed, hph] at hp ha hs <;> exact hp.1
  refine ⟨h.core, hidle, ?_, ?_, fun ht => ?_⟩
  · have hb := h.breakOut
    simpa [State.mayBreak, hidle] using hb
  · simpa [State.between, State.wantsLock, ha, hs] using h.lock
  · rcases h.terminated ht with ht | ht
    · exact ha ht
    · exact hs ht

end State.Busy

/-! ### Parts of a micro-step inside an iteration -/

/-- What a micro-step of an iteration leaves as it is, also where it ends the connection. -/
def State.kept (s : State) : Config × TimingSet × TimingSet × HsStep × Bool × Holder × ConnState × Phase × Micro :=
  (s.cfg, s.tpDefault, s.tpLimits, s.hsStep, s.breakOut, s.lock, s.connState, s.phase, s.micro)

/-- From `s` to `t` by part of a micro-step of an iteration; the position is not yet moved. -/
structure State.Goes (s t : State) : Prop where
  busy : t.Busy
  conn : s.ConnMove t
  events : ∃ l, t.events = s.events ++ l
  phase : t.phase = s.phase
  micro : t.micro = s.micro

namespace State.Goes

variable {s t u : State}

/-- An update of the registers that keeps the invariant and the connection state. -/
theorem of_core (h : s.Busy) (ht : t.Core) (hkept : t.kept = s.kept) (hev : ∃ l, t.events = s.events ++ l) :
    s.Goes t := by
  simp only [State.kept, Prod.mk.injEq] at hkept
  obtain ⟨-, -, -, hs, hb, hl, hc, hp, hm⟩ := hkept
  exact ⟨⟨ht, hs.trans h.hsStep, hb.trans h.breakOut, hl.trans h.lock, hc ▸ h.live⟩, .inl hc, hev, hp, hm⟩

theorem refl (h : s.Busy) : s.Goes s := ⟨h, .inl rfl, ⟨[], by simp⟩, rfl, rfl⟩

theorem raise (h : s.Busy) (e : Event) : s.Goes (s.raise e) :=
  of_core h (h.core.of_registers rfl) rfl ⟨[e], rfl⟩

/-- The connection ends: `u` is the state before it is cleared. -/
theorem of_cleared (h : s.Busy) (hlive : s.iterates = true) (hkept : u.kept = s.kept)
    (hev : ∃ l, u.events = s.events ++ l) : s.Goes u.cleared := by
  simp only [State.kept, Prod.mk.injEq] at hkept
  obtain ⟨hcfg, hdef, hlim, hs, hb, hl, hc, hp, hm⟩ := hkept
  refine ⟨⟨h.core.cleared hcfg hdef hlim, hs.trans h.hsStep, hb.trans h.breakOut, hl.trans h.lock, nofun⟩,
    .of_cleared hlive hc hev rfl rfl, ?_, hp, hm⟩
  obtain ⟨l, hl⟩ := hev
  exact ⟨_, by rw [State.cleared, hl, List.append_assoc, List.append_assoc]⟩

theorem enterDisconnected (h : s.Busy) (hlive : s.iterates = true) (c : EntryCause) :
    s.Goes (s.enterDisconnected c) := by
  rw [State.enterDisconnected_of_live (State.ne_disconnected hlive)]
  exact of_cleared h hlive rfl ⟨[], by simp⟩

theorem forceDisconnect (h : s.Busy) (hlive : s.iterates = true) (c : ForcedCause) :
    s.Goes (s.forceDisconnect c) := by
  rw [State.forceDisconnect_of_live (State.ne_disconnected hlive)]
  exact of_cleared h hlive rfl ⟨_, rfl⟩

/-- The first part leaves the connection state. -/
theorem andThen (g : s.Goes t) (hc : t.connState = s.connState) (g' : t.Goes u) : s.Goes u := by
  obtain ⟨l, hl⟩ := g.events
  obtain ⟨l', hl'⟩ := g'.events
  refine ⟨g'.busy, ?_, ⟨l ++ l', by rw [hl', hl, List.append_assoc]⟩, g'.phase.trans g.phase, g'.micro.trans g.micro⟩
  rcases g'.conn with h | ⟨hedge, hterm, k, hk, hmem⟩
  · exact .inl (h.trans hc)
  · exact .inr ⟨hc ▸ hedge, hterm, l ++ k, by rw [hk, hl, List.append_assoc],
      List.mem_append_right _ (hc ▸ hmem)⟩

/-- The second part leaves the connection state. -/
theorem followed (g : s.Goes t) (g' : t.Goes u) (hc : u.connState = t.connState) : s.Goes u := by
  obtain ⟨l, hl⟩ := g.events
  obtain ⟨l', hl'⟩ := g'.events
  refine ⟨g'.busy, ?_, ⟨l ++ l', by rw [hl', hl, List.append_assoc]⟩, g'.phase.trans g.phase, g'.micro.trans g.micro⟩
  rcases g.conn with h | ⟨hedge, hterm, k, hk, hmem⟩
  · exact .inl (hc.trans h)
  · exact .inr ⟨hc ▸ hedge, hc ▸ hterm, k ++ l', by rw [hl', hk, List.append_assoc],
      List.mem_append_left _ (hc ▸ hmem)⟩

/-- The micro-step ends at a position of the iteration. -/
theorem keeps {p : Phase} {m : Micro} (g : s.Goes t) (hu : u = { t with phase := u.phase, micro := u.micro })
    (hp : u.phase = p) (hm : u.micro = m) (hst : stands p m u.iterates = true) : s.Keeps (.next u) := by
  refine ⟨u, rfl, ?_, ?_⟩
  · have hbusy : u.Busy := by
      rw [hu]
      exact g.busy.of_registers rfl
    exact hbusy.inv_at hp hm hst
  · rw [hu]
    exact g.conn

theorem keeps_asleep (g : s.Goes t) : s.Keeps (.next t.asleep) := ⟨_, rfl, g.busy.asleep, g.conn⟩

theorem readDone (h : s.Busy) (n : Nat) : s.Goes (s.readDone n) := by
  unfold State.readDone
  split
  · exact of_core h (h.core.of_registers rfl) rfl ⟨_, rfl⟩
  · exact of_core h (h.core.of_registers rfl) rfl ⟨[], by simp⟩

theorem receive (h : s.Busy) (hlive : s.iterates = true) (r : List Byte) : s.Goes (s.receive r) := by
  refine of_core h (h.core.receive hlive r) ?_ (State.Extends.receive (w := false) r).events
  rw [State.receive_same]
  rfl

/-- A read has returned and its bytes go through the echo filter. -/
theorem read (h : s.Busy) (hlive : s.iterates = true) (n : Nat) (r : List Byte) :
    s.Goes ((s.readDone n).receive r) := by
  have hc : (s.readDone n).connState = s.connState := s.readDone_connState n
  exact (readDone h n).andThen hc (receive (readDone h n).busy (by rwa [State.iterates, hc]) r)

end State.Goes

end Sys2Proof.Machine

namespace Sys2Proof.Machine

/-! ### The phases B and C keep the invariant -/

section
variable {s : State}

theorem keeps_phaseB (h : s.Inv) (hp : s.phase = .b) : s.Keeps (seqStep s) := by
  have hbusy : s.Busy := .of_inv h (by simp [hp]) (by simp [hp])
  have hlive : s.iterates = true := h.deep (by simp [State.deep, hp])
  have hm : s.micro = .start := by
    have hpl := h.placed
    simp only [State.placed, hp, Bool.and_eq_true, beq_iff_eq] at hpl
    exact hpl.2
  rw [seqStep_phaseB hp hm]
  have hgoes : s.Goes s.drain := by
    unfold State.drain
    dsimp only
    split
    · exact .read hbusy hlive ..
    · exact .refl hbusy
  exact hgoes.keeps (u := s.drain.toPhase .c) rfl rfl rfl rfl

/-! The scan and the flush. -/

theorem State.Core.framed (h : s.Core) (hlive : s.iterates = true) (m : Message) (k n : Nat) :
    (s.framed m k (s.rxbuf.drop n)).Core :=
  { h with
    rxbufCap := by
      have hle := h.rxbufCap
      simp only [State.framed, List.length_drop]
      omega
    p2maxEff := .inl rfl
    disconnected := fun hd => absurd hd (s.iterates_iff.mp hlive)
    swP1 := by
      by_cases hr : s.rxbuf.drop n = []
      · simp [State.framed, hr]
      · simp [State.framed, hr] }

theorem State.Core.dropped (h : s.Core) (hlive : s.iterates = true) (k : FrameKind) : (s.dropped k).Core :=
  { h with
    rxbufCap := by
      have hle := h.rxbufCap
      simp only [State.dropped, List.length_tail]
      omega
    disconnected := fun hd => absurd hd (s.iterates_iff.mp hlive)
    swP1 := by
      by_cases hr : s.rxbuf.tail = []
      · simp [State.dropped, hr]
      · simp [State.dropped, hr] }

theorem State.Core.scanWaits (h : s.Core) (hlive : s.iterates = true) : s.scanWaits.Core :=
  { h with disconnected := fun hd => absurd hd (s.iterates_iff.mp hlive) }

theorem State.Core.flushEnd (h : s.Core) (hlive : s.iterates = true) : s.flushEnd.Core := by
  rw [State.flushEnd_eq]
  exact { h with
    rxbufCap := Nat.zero_le _
    disconnected := fun hd => absurd hd (s.iterates_iff.mp hlive)
    swP1 := by
      by_cases hr : s.rxbuf = []
      · intro hrun
        exact absurd hr (h.swP1 (by simpa [hr] using hrun))
      · simp [hr] }

theorem stands_of_live {p : Phase} {m : Micro} {live : Bool} (hlive : live = true) (h : stands p m true = true) :
    stands p m live = true := hlive ▸ h

/-- An update that keeps the connection, the lock and the break ends at a position of the iteration. -/
theorem State.Busy.keeps {t : State} {p : Phase} {m : Micro} (h : s.Busy) (ht : t.Core)
    (hsame : (t.hsStep, t.breakOut, t.lock, t.connState) = (s.hsStep, s.breakOut, s.lock, s.connState))
    (hp : t.phase = p) (hm : t.micro = m) (hst : stands p m t.iterates = true) : s.Keeps (.next t) := by
  simp only [Prod.mk.injEq] at hsame
  obtain ⟨hs, hb, hl, hc⟩ := hsame
  have hbusy : t.Busy := ⟨ht, hs.trans h.hsStep, hb.trans h.breakOut, hl.trans h.lock, hc ▸ h.live⟩
  exact ⟨t, rfl, hbusy.inv_at hp hm hst, .inl hc⟩

theorem keeps_header (h : s.Busy) (hlive : s.iterates = true) (hp : s.phase = .c) (f : Form) :
    s.Keeps (.next (s.header f)) := by
  have hframe (m k n) : s.Keeps (.next (s.onFrame m k n)) := by
    rw [s.onFrame_eq_framed]
    exact h.keeps (h.core.framed hlive ..) rfl hp rfl (stands_of_live hlive rfl)
  have hdrop (k) : s.Keeps (.next ((s.discardOne k).goto .start)) := by
    rw [s.discardOne_goto_eq_dropped]
    exact h.keeps (h.core.dropped hlive k) rfl hp rfl rfl
  have hnext (k) : s.Keeps (.next (s.goto (.flush (k + 1)))) :=
    h.keeps (h.core.of_registers rfl) rfl hp rfl (stands_of_live hlive rfl)
  have hwait : s.Keeps (.next s.scanWaits) := h.keeps (h.core.scanWaits hlive) rfl hp rfl rfl
  unfold State.header
  split
  · unfold State.flushAt
    split
    · exact hframe ..
    all_goals exact hnext _
  · unfold State.scanOnce
    split
    · exact hwait
    · split
      · exact hframe ..
      · exact hwait
      all_goals exact hdrop _

theorem keeps_phaseC (h : s.Busy) (hp : s.phase = .c) : s.Keeps (.next s.phaseC) := by
  unfold State.phaseC
  split
  · next hf =>
    have hlive : s.iterates = true := h.core.live_of_not_quiet fun hq => by simp [State.Quiet, hf] at hq
    exact h.keeps (h.core.of_registers rfl) rfl hp rfl (stands_of_live hlive rfl)
  · split
    · next hd =>
      have hlive : s.iterates = true := h.core.live_of_not_quiet fun hq => by simp [State.Quiet, hd] at hq
      exact h.keeps (h.core.scanWaits hlive) rfl hp rfl rfl
    · exact h.keeps (h.core.of_registers rfl) rfl rfl rfl rfl

/-- The place of the scan holds a format byte, and only in a dirty buffer. -/
theorem fetch_scan {p : Port} {bs : List Byte} (hp : s.phase = .c) (hm : s.micro = .start)
    (hf : s.fetch = some (p, bs)) : s.rxDirty = true ∧ ∃ b, p = .header ∧ bs = [b] := by
  simp only [State.fetch, hp, hm, Option.ite_none_right_eq_some, Option.map_eq_some_iff, Prod.mk.injEq,
    Bool.and_eq_true] at hf
  obtain ⟨⟨-, hd⟩, b, -, rfl, rfl⟩ := hf
  exact ⟨hd, b, rfl, rfl⟩

theorem fetch_flush {p : Port} {bs : List Byte} {k : Nat} (hp : s.phase = .c) (hm : s.micro = .flush k)
    (hf : s.fetch = some (p, bs)) : ∃ b, p = .header ∧ bs = [b] := by
  simp only [State.fetch, hp, hm, Option.map_eq_some_iff, Prod.mk.injEq] at hf
  obtain ⟨b, -, rfl, rfl⟩ := hf
  exact ⟨b, rfl, rfl⟩

/-- A format byte is met as the shared header operation. -/
theorem exec_header {b : Byte} {r : List Byte} {i : Instr} (hd : decode .header [b] = .ok (i, r)) :
    ∃ f, exec i s = .next (s.header f) := by
  obtain ⟨rfl, -⟩ := Prod.mk.inj (Except.ok.inj hd)
  obtain ⟨f, hf⟩ := decodeHeader_form b
  exact ⟨f, exec_of_form s hf⟩

theorem keeps_scan (h : s.Busy) (hp : s.phase = .c) (hm : s.micro = .start) : s.Keeps (seqStep s) := by
  rcases seqStep_cases s with ⟨p, bs, i, r, hf, hd, e⟩ | e <;> rw [e]
  · obtain ⟨hdirty, b, rfl, rfl⟩ := fetch_scan hp hm hf
    have hlive : s.iterates = true := h.core.live_of_not_quiet fun hq => by simp [State.Quiet, hdirty] at hq
    obtain ⟨f, hf⟩ := exec_header (s := s) hd
    rw [hf]
    exact keeps_header h hlive hp f
  · have hint : s.internal = .next s.phaseC := by simp [State.internal, hp, hm]
    rw [hint]
    exact keeps_phaseC h hp

theorem keeps_flush {k : Nat} (h : s.Busy) (hlive : s.iterates = true) (hp : s.phase = .c) (hm : s.micro = .flush k) :
    s.Keeps (seqStep s) := by
  rcases seqStep_cases s with ⟨p, bs, i, r, hf, hd, e⟩ | e <;> rw [e]
  · obtain ⟨b, rfl, rfl⟩ := fetch_flush hp hm hf
    obtain ⟨f, hf⟩ := exec_header (s := s) hd
    rw [hf]
    exact keeps_header h hlive hp f
  · have hint : s.internal = .next s.flushEnd := by simp [State.internal, hp, hm]
    have hcore := h.core.flushEnd hlive
    rw [hint]
    rw [State.flushEnd_eq] at hcore ⊢
    exact h.keeps hcore rfl hp rfl rfl

/-! Dispatch and response codes. -/

theorem maskKey_bit7 (b : Byte) : (maskKey b).getLsbD 7 = false := by
  simp only [maskKey, Fixed.keyByteMask]
  revert b
  decide

theorem State.deliver_connState (m : Message) (e : Entry) : (s.deliver m e).connState = s.connState := by
  rw [State.deliver_eq]

theorem State.captureKeys_connState (m : Message) : (s.captureKeys m).connState = s.connState := by
  rw [State.captureKeys_eq]

namespace State.Goes

theorem unsolicitedMsg (h : s.Busy) (hlive : s.iterates = true) (m : Message) : s.Goes (s.unsolicitedMsg m) := by
  rw [State.unsolicitedMsg_eq]
  split
  · next hlt =>
    exact of_core h { h.core with
      disconnected := fun hd => absurd hd (s.iterates_iff.mp hlive)
      unsolicited := hlt } rfl ⟨_, rfl⟩
  · rw [State.forceDisconnect_of_live (by exact State.ne_disconnected hlive)]
    exact of_cleared h hlive rfl ⟨_, List.append_assoc ..⟩

theorem negativeOther (h : s.Busy) (hlive : s.iterates = true) (m req : Message) : s.Goes (s.negativeOther m req) := by
  have hcount : ({ s with respCount := s.respCount + 1 } : State).Core :=
    { h.core with disconnected := fun hd => absurd hd (s.iterates_iff.mp hlive) }
  unfold State.negativeOther
  split
  · exact forceDisconnect h hlive _
  split
  · exact of_core h hcount rfl ⟨[], by simp⟩
  split
  · exact forceDisconnect h hlive _
  · exact of_core h (hcount.of_registers rfl) rfl ⟨_, rfl⟩

theorem captureKeys (h : s.Busy) (hlive : s.iterates = true) (m : Message) : s.Goes (s.captureKeys m) := by
  unfold State.captureKeys
  split
  · exact of_core h { h.core with
      disconnected := fun hd => absurd hd (s.iterates_iff.mp hlive)
      keyBit7 := ⟨maskKey_bit7 _, maskKey_bit7 _⟩ } rfl ⟨[], by simp⟩
  · exact refl h

theorem fastConnected (h : s.Busy) : s.Goes s.fastConnected := by
  by_cases hc : s.connState = .connectionPending
  · unfold State.fastConnected
    rw [if_pos hc]
    refine ⟨⟨{ h.core with disconnected := nofun, attempts := fun _ => rfl }, h.hsStep, h.breakOut, h.lock, nofun⟩,
      .inr ⟨?_, nofun, [_], rfl, ?_⟩, ⟨_, rfl⟩, rfl, rfl⟩
    · rw [hc]
      rfl
    · rw [hc]
      exact List.mem_singleton.mpr rfl
  · unfold State.fastConnected
    rw [if_neg hc]
    exact refl h

theorem deliver (h : s.Busy) (m : Message) (e : Entry) : s.Goes (s.deliver m e) := by
  unfold State.deliver
  split
  · exact refl h
  · exact raise h _

theorem positive (h : s.Busy) (hlive : s.iterates = true) (m : Message) (e : Entry) : s.Goes (s.positive m e) := by
  have hcount : s.Goes { s with respCount := s.respCount + 1 } :=
    of_core h { h.core with disconnected := fun hd => absurd hd (s.iterates_iff.mp hlive) } rfl ⟨[], by simp⟩
  unfold State.positive
  refine andThen hcount rfl ?_
  have hbusy := hcount.busy
  dsimp only
  split
  · have hkeys := captureKeys hbusy hlive m
    have hfast := hkeys.andThen (State.captureKeys_connState m) (fastConnected hkeys.busy)
    exact hfast.followed (deliver hfast.busy m e) (State.deliver_connState m e)
  split
  · have hdel := deliver hbusy m e
    refine hdel.andThen (State.deliver_connState m e) (enterDisconnected hdel.busy ?_ _)
    rwa [State.iterates, State.deliver_connState]
  split
  · exact refl hbusy
  · exact raise hbusy _

end State.Goes

/-- A position of phase C at a response code (R275). -/
theorem State.Busy.inv_code {t : State} (h : t.Busy) (hp : t.phase = .c) (hm : t.micro = .code)
    (hlive : t.iterates = true) (he : t.expecting = true) : t.Inv := by
  refine h.inv_of_not_a (by simp [hp]) (by simp [hp]) ?_ (fun _ => hlive) ?_ fun _ => he
  · simp [State.placed, hp, hm, h.hsStep]
  · simp [hm, Micro.sending]

theorem keeps_dispatch (h : s.Busy) (hlive : s.iterates = true) (hp : s.phase = .c) (m : Message) :
    s.Keeps (.next (s.dispatch m)) := by
  have hgo : (s.goto .start).Busy := h.of_registers rfl
  have hend {t : State} (g : (s.goto .start).Goes t) : s.Keeps (.next t) :=
    State.Goes.keeps (s := s.goto .start) g rfl (g.phase.trans hp) g.micro rfl
  have hmatch : (s.goto .start).matched.Busy :=
    ⟨{ hgo.core with
      disconnected := fun hd => absurd hd (s.iterates_iff.mp hlive)
      unsolicited := Nat.zero_lt_succ _
      unanswered := Nat.zero_lt_succ _ }, h.hsStep, h.breakOut, h.lock, h.live⟩
  have hendm {t : State} (g : (s.goto .start).matched.Goes t) : s.Keeps (.next t) :=
    State.Goes.keeps (s := (s.goto .start).matched) g rfl (g.phase.trans hp) g.micro rfl
  unfold State.dispatch
  dsimp only
  split
  · split
    · next e ho =>
      split
      · exact hendm (.positive hmatch hlive m e)
      split
      · rcases (s.goto .start).matched.negative_cases m e with ⟨-, hneg⟩ | ⟨-, hneg⟩ <;> rw [hneg]
        · have hexp : s.expecting = true := by
            by_contra hne
            rw [State.outstanding_of_not_expecting (by simpa using hne)] at ho
            cases ho
          exact ⟨_, rfl, State.Busy.inv_code (hmatch.of_registers rfl) hp rfl hlive hexp, .inl rfl⟩
        · exact hendm (.negativeOther hmatch hlive m e.msg)
      · exact hend (.unsolicitedMsg hgo hlive m)
    · exact hend (.unsolicitedMsg hgo hlive m)
  · exact hend (.raise hgo _)

theorem State.Core.busyRepeat (h : s.Core) {e : Entry} {q : List Entry} (hq : s.txq = e :: q) :
    (s.busyRepeat e q).Core := by
  have hcap := h.txqCap
  have hser := h.queue
  rw [hq] at hcap hser
  exact { h with
    txqCap := hcap
    expecting := nofun
    disconnected := fun hd => by simp [(h.disconnected hd).2.1] at hq
    queue := by
      intro x hx
      rcases List.mem_cons.mp hx with rfl | hx
      · exact hser e (List.mem_cons_self ..)
      · exact hser x (List.mem_cons_of_mem _ hx) }

theorem keeps_responseCode (h : s.Busy) (hlive : s.iterates = true) (hp : s.phase = .c) (he : s.expecting = true)
    (c : Byte) : s.Keeps (s.responseCode c) := by
  have hgo : (s.goto .start).Busy := h.of_registers rfl
  have hend {t : State} (g : (s.goto .start).Goes t) : s.Keeps (.next t) :=
    State.Goes.keeps (s := s.goto .start) g rfl (g.phase.trans hp) g.micro rfl
  obtain ⟨e, q, hq, -⟩ := h.core.expecting he
  rw [s.responseCode_cons hq]
  split
  · exact hend (.of_core hgo { hgo.core with p2maxEff := .inr rfl } rfl ⟨[_], rfl⟩)
  split
  · exact hend (.of_core hgo (hgo.core.busyRepeat hq) rfl ⟨[_], rfl⟩)
  · exact hend (.negativeOther hgo hlive _ _)

theorem keeps_code (h : s.Busy) (hlive : s.iterates = true) (hp : s.phase = .c) (hm : s.micro = .code)
    (he : s.expecting = true) : s.Keeps (seqStep s) := by
  obtain ⟨e, q, hq, -⟩ := h.core.expecting he
  rcases seqStep_cases s with ⟨p, bs, i, r, hf, hd, hs⟩ | hs <;> rw [hs]
  · simp only [State.fetch, hp, hm, Option.map_eq_some_iff, Prod.mk.injEq] at hf
    obtain ⟨b, -, rfl, rfl⟩ := hf
    obtain ⟨rfl, -⟩ := Prod.mk.inj (Except.ok.inj hd)
    rw [exec_of_responseCode s (decodeCode_responseCode b)]
    exact keeps_responseCode h hlive hp he b
  · have hgo : (s.goto .start).Busy := h.of_registers rfl
    have hint : s.internal = .next ((s.goto .start).negativeOther s.frame e.msg) := by
      simp [State.internal, hp, hm, hq]
    have g := State.Goes.negativeOther hgo hlive s.frame e.msg
    rw [hint]
    exact State.Goes.keeps (s := s.goto .start) g rfl (g.phase.trans hp) g.micro rfl

theorem seqStep_dispatch (hp : s.phase = .c) (hm : s.micro = .dispatch) :
    seqStep s = .next (s.dispatch { s.frame with sid := s.frame.sid }) := by
  have hf : s.fetch = some (.service .rx, [s.frame.sid]) := by simp [State.fetch, hp, hm]
  rw [seqStep_of_item hf rfl, exec_of_service_rx s (decodeSid_service .rx _)]

/-- Every position of phase C. -/
theorem keeps_c (h : s.Inv) (hp : s.phase = .c) : s.Keeps (seqStep s) := by
  have hbusy : s.Busy := .of_inv h (by simp [hp]) (by simp [hp])
  have hpl := h.placed
  simp only [State.placed, hp, Bool.and_eq_true] at hpl
  cases hm : s.micro <;> simp [hm, Micro.flushing] at hpl
  case start => exact keeps_scan hbusy hp hm
  case flush k => exact keeps_flush hbusy (h.deep (by simp [State.deep, hm, Micro.flushing])) hp hm
  case dispatch =>
    rw [seqStep_dispatch hp hm]
    exact keeps_dispatch hbusy (h.deep (by simp [State.deep, hm])) hp _
  case code => exact keeps_code hbusy (h.deep (by simp [State.deep, hm])) hp hm (h.code hm)

end

end Sys2Proof.Machine

namespace Sys2Proof.Machine

/-! ### Phase D keeps the invariant -/

section
variable {s : State}

theorem State.Core.live_of_p1 (h : s.Core) (hr : s.swP1.running = true) : s.iterates = true :=
  h.live_of_not_quiet fun hq => by
    obtain ⟨-, -, -, -, -, -, -, -, -, h1, -⟩ := hq
    simp [h1] at hr

theorem State.Core.live_of_p2 (h : s.Core) (hr : s.swP2.running = true) : s.iterates = true :=
  h.live_of_not_quiet fun hq => by
    obtain ⟨-, -, -, -, -, -, -, -, -, -, h2, -⟩ := hq
    simp [h2] at hr

theorem State.probed_connState : s.probed.2.connState = s.connState := by
  unfold State.probed
  dsimp only
  split
  · exact s.readDone_connState 1
  · rw [State.receive_same]
    exact s.readDone_connState 1

theorem State.Goes.probed (h : s.Busy) (hlive : s.iterates = true) : s.Goes s.probed.2 := by
  unfold State.probed
  dsimp only
  split
  · exact .readDone h 1
  · exact .read h hlive ..

theorem keeps_checkP1 (h : s.Busy) (hp : s.phase = .d) : s.Keeps (.next s.checkP1) := by
  unfold State.checkP1
  split
  · next ho =>
    have hlive := h.core.live_of_p1 (s.p1Over_iff.mp ho).1
    exact h.keeps (h.core.of_registers rfl) rfl hp rfl (stands_of_live hlive rfl)
  · exact h.keeps (h.core.of_registers rfl) rfl hp rfl rfl

theorem keeps_probeP1 (h : s.Busy) (hlive : s.iterates = true) (hp : s.phase = .d) : s.Keeps (.next s.probeP1) := by
  have g := State.Goes.probed h hlive
  have hlive' : s.probed.2.iterates = true := by rwa [State.iterates, State.probed_connState]
  have hflush : s.probed.2.Goes (({ s.probed.2 with p1Flush := true } : State).raise (.timingViolation .p1)) :=
    .of_core g.busy { g.busy.core with
      disconnected := fun hd => absurd hd (s.probed.2.iterates_iff.mp hlive') } rfl ⟨_, rfl⟩
  have hall : s.Goes (if s.probed.1 then s.probed.2
      else ({ s.probed.2 with p1Flush := true } : State).raise (.timingViolation .p1)) := by
    split
    · exact g
    · exact g.andThen State.probed_connState hflush
  exact hall.keeps (u := s.probeP1) rfl (hall.phase.trans hp) rfl rfl

theorem keeps_checkP3 (h : s.Busy) (hp : s.phase = .d) : s.Keeps (.next s.checkP3) := by
  unfold State.checkP3
  split
  · next ho =>
    have hlive : s.iterates = true := by simp [State.iterates, (s.p3Over_iff.mp ho).1]
    exact h.keeps (h.core.of_registers rfl) rfl hp rfl (stands_of_live hlive rfl)
  · exact h.keeps (h.core.of_registers rfl) rfl hp rfl rfl

theorem keeps_probeP3 (h : s.Busy) (hlive : s.iterates = true) (hp : s.phase = .d) : s.Keeps (.next s.probeP3) := by
  have g := State.Goes.probed h hlive
  have hlive' : s.probed.2.iterates = true := by rwa [State.iterates, State.probed_connState]
  have hraise := State.Goes.raise g.busy (.timingViolation .p3)
  have hall : s.Goes (if s.probed.1 then s.probed.2
      else (s.probed.2.raise (.timingViolation .p3)).forceDisconnect .p3Timeout) := by
    split
    · exact g
    · exact g.andThen State.probed_connState (hraise.andThen rfl (.forceDisconnect hraise.busy hlive' _))
  exact hall.keeps (u := s.probeP3) rfl (hall.phase.trans hp) rfl rfl

theorem keeps_checkDisc (h : s.Busy) : s.Keeps (.next s.checkDisc) := by
  have hall : s.Goes (if s.discOver then s.enterDisconnected .cleanTimeout else s) := by
    split
    · next ho =>
      have hlive : s.iterates = true := by simp [State.iterates, (s.discOver_iff.mp ho).1]
      exact .enterDisconnected h hlive _
    · exact .refl h
  exact hall.keeps (u := s.checkDisc) rfl rfl rfl rfl

/-- The head entry is taken from the queue, and no response is expected. -/
theorem State.Core.popped (h : s.Core) (hlive : s.iterates = true) {e : Entry} {q : List Entry} (hq : s.txq = e :: q) :
    ({ s with txq := q, respCount := 0, expecting := false } : State).Core := by
  have hcap := h.txqCap
  have hser := h.queue
  rw [hq] at hcap hser
  exact { h with
    txqCap := (Nat.le_succ _).trans hcap
    expecting := nofun
    disconnected := fun hd => absurd hd (s.iterates_iff.mp hlive)
    queue := fun x hx => hser x (List.mem_cons_of_mem _ hx) }

/-- The wait for a response ends without one (R290). -/
theorem State.Goes.unansweredMsg (h : s.Busy) (hlive : s.iterates = true) {e : Entry} {q : List Entry}
    (hq : s.txq = e :: q) : ∃ t, s.unansweredMsg = .next t ∧ s.Goes t := by
  by_cases hc : s.connState = .connectionPending
  · exact ⟨_, State.unansweredMsg_of_pending hq hc, .of_cleared h hlive rfl ⟨_, rfl⟩⟩
  · refine ⟨_, State.unansweredMsg_of_live hq hc (State.ne_disconnected hlive), ?_⟩
    dsimp only
    split
    · exact .of_cleared h hlive rfl ⟨_, List.append_assoc ..⟩
    · next hn =>
      refine .of_core h { h.core with
        disconnected := fun hd => absurd hd (s.iterates_iff.mp hlive)
        unanswered := ?_ } rfl ⟨_, rfl⟩
      have hlt := h.core.unanswered
      cases hpr : e.probe
      · simp only [hpr, true_and] at hn
        simpa using Nat.lt_of_not_le hn
      · simpa using hlt

theorem keeps_checkP2 (h : s.Busy) (hp : s.phase = .d) : s.Keeps s.checkP2 := by
  cases ho : s.p2Over
  · rw [State.checkP2_of_not_over ho]
    exact h.keeps (h.core.of_registers rfl) rfl hp rfl rfl
  have hlive := h.core.live_of_p2 (s.p2Over_iff.mp ho).2.1
  cases he : s.expecting
  · rw [State.checkP2_of_not_expecting ho he]
    exact h.keeps { h.core with disconnected := fun hd => absurd hd (s.iterates_iff.mp hlive) } rfl hp rfl rfl
  rw [State.checkP2_of_expecting ho he]
  obtain ⟨e, q, hq, -⟩ := h.core.expecting he
  have hgo : (s.goto .checkP3).Busy := h.of_registers rfl
  have hexp : (s.goto .checkP3).Goes s.p2Expired :=
    .of_core hgo { h.core with
      expecting := nofun
      disconnected := fun hd => absurd hd (s.iterates_iff.mp hlive) } rfl ⟨_, rfl⟩
  have hend {t : State} (g : s.p2Expired.Goes t) : s.Keeps (.next t) := by
    have hall := hexp.andThen rfl g
    exact State.Goes.keeps (s := s.goto .checkP3) hall rfl (hall.phase.trans hp) hall.micro rfl
  split
  · obtain ⟨t, ht, g⟩ := State.Goes.unansweredMsg hexp.busy hlive hq
    rw [ht]
    exact hend g
  · rw [State.finalize_cons s.p2Expired hq]
    exact hend (.of_core hexp.busy ((hexp.busy.core.popped hlive hq).of_registers rfl) rfl ⟨_, rfl⟩)

/-- Every position of phase D. -/
theorem keeps_d (h : s.Inv) (hp : s.phase = .d) : s.Keeps (seqStep s) := by
  have hbusy : s.Busy := .of_inv h (by simp [hp]) (by simp [hp])
  have hpl := h.placed
  simp only [State.placed, hp, Bool.and_eq_true] at hpl
  cases hm : s.micro <;> simp [hm, Micro.probing] at hpl
  case start => rw [seqStep_d_start hp hm]; exact keeps_checkP1 hbusy hp
  case probe1 t =>
    rw [seqStep_d_probe1 hp hm]
    exact keeps_probeP1 hbusy (h.deep (by simp [State.deep, hm, Micro.probing])) hp
  case checkP2 => rw [seqStep_d_checkP2 hp hm]; exact keeps_checkP2 hbusy hp
  case checkP3 => rw [seqStep_d_checkP3 hp hm]; exact keeps_checkP3 hbusy hp
  case probe3 t =>
    rw [seqStep_d_probe3 hp hm]
    exact keeps_probeP3 hbusy (h.deep (by simp [State.deep, hm, Micro.probing])) hp
  case checkDisc => rw [seqStep_d_checkDisc hp hm]; exact keeps_checkDisc hbusy

/-! ### Phase E up to the transmission -/

/-- About to transmit, or between two bytes of a paced transmission, in phase E. -/
theorem State.Busy.inv_sending (h : s.Busy) (hp : s.phase = .e) (hm : s.micro.sending = true)
    (hlive : s.iterates = true) (hs : s.txq ≠ [] ∧ s.echoFifo = [] ∧ s.expecting = false) : s.Inv := by
  refine h.inv_of_not_a (by simp [hp]) (by simp [hp]) ?_ (fun _ => hlive) (fun _ => hs) fun hc => ?_
  · simp [State.placed, hp, hm, h.hsStep]
  · simp [hc, Micro.sending] at hm

theorem serializable_ownRequest (mode : AddrMode) (dst src sid : Byte) :
    serializable (ownRequest mode dst src sid) = true := by
  rw [serializable_iff, ownRequest_eq]
  exact ⟨Nat.zero_le _, fun (hm : mode = .none) => by simp [hm]⟩

/-- A request of the block's own at the tail. -/
theorem State.Core.pushed (h : s.Core) (hlive : s.iterates = true) {e : Entry} (hroom : s.txq.length < s.cfg.txqCap)
    (he : serializable e.msg = true) : ({ s with txq := s.txq ++ [e] } : State).Core :=
  { h with
    txqCap := by simpa using hroom
    expecting := fun hx => by
      obtain ⟨x, q, hq, ha⟩ := h.expecting hx
      exact ⟨x, q ++ [e], by simp [hq], ha⟩
    disconnected := fun hd => absurd hd (s.iterates_iff.mp hlive)
    queue := by
      intro x hx
      rcases List.mem_append.mp hx with hx | hx
      · exact h.queue x hx
      · rw [List.mem_singleton.mp hx]
        exact he }

/-- A keep-alive changes only the queue. -/
theorem State.keepAlive_same : s.keepAlive = { s with txq := s.keepAlive.txq } := by
  unfold State.keepAlive State.txqPush
  split
  · split <;> rfl
  · rfl

theorem State.Core.keepAlive (h : s.Core) (hlive : s.iterates = true) : s.keepAlive.Core := by
  by_cases hdue : s.keepAliveDue = true
  · by_cases hroom : s.txq.length < s.cfg.txqCap
    · rw [State.keepAlive_of_due hdue hroom]
      exact h.pushed hlive hroom (serializable_ownRequest ..)
    · have hfull : s.keepAlive = s := by
        simp [State.keepAlive, hdue, s.txqPush_of_full _ (not_lt.mp hroom)]
      rwa [hfull]
  · rwa [State.keepAlive_of_not_due (by simpa using hdue)]

theorem keeps_retryExhausted (h : s.Busy) (hlive : s.iterates = true) {e : Entry} {q : List Entry}
    (hq : s.txq = e :: q) : s.Keeps s.retryExhausted := by
  rw [State.retryExhausted_cons hq]
  dsimp only
  split
  · exact State.Goes.keeps_asleep (.of_cleared h hlive rfl ⟨_, rfl⟩)
  · exact State.Goes.keeps_asleep (.of_core h ((h.core.popped hlive hq).of_registers rfl) rfl ⟨_, rfl⟩)

theorem keeps_e_start (h : s.Busy) (hp : s.phase = .e) : s.Keeps s.phaseE := by
  unfold State.phaseE
  split
  · next hcan =>
    obtain ⟨hecho, hexp, -, hconn⟩ := s.canTx_iff.mp hcan
    have hlive : s.iterates = true := by rcases hconn with hc | hc <;> simp [State.iterates, hc]
    have hcore := h.core.keepAlive hlive
    have hsame := s.keepAlive_same
    dsimp only
    generalize s.keepAlive = u at hcore hsame
    have g : s.Goes u := .of_core h hcore (by rw [hsame]; rfl) ⟨[], by rw [hsame]; simp⟩
    have hlive' : u.iterates = true := by rw [hsame]; exact hlive
    split
    · exact g.keeps_asleep
    next e q hq =>
    split
    · refine ⟨_, rfl, State.Busy.inv_sending (g.busy.of_registers rfl) (g.phase.trans hp) rfl hlive' ?_, g.conn⟩
      refine ⟨by simp [hq], ?_, ?_⟩
      · rw [hsame]; exact hecho
      · rw [hsame]; exact hexp
    · obtain ⟨t, ht, hinv, hmove⟩ := keeps_retryExhausted g.busy hlive' hq
      refine ⟨t, ht, hinv, ?_⟩
      rw [hsame] at hmove
      exact hmove
  · exact State.Goes.keeps_asleep (.refl h)

end

end Sys2Proof.Machine

namespace Sys2Proof.Machine

/-! ### The handshake run keeps the invariant -/

/-- The registers during a handshake run. -/
structure State.Run (s : State) : Prop where
  core : s.Core
  pending : s.connState = .connectionPending
  quiet : s.Quiet
  lock : s.lock = .seq
  phase : s.phase = .a

/-- The end of phase A: the state test is next (R250). -/
theorem State.Core.inv_test {s : State} (h : s.Core) (hp : s.phase = .a) (hs : s.hsStep = .idle) (hm : s.micro = .test)
    (hl : s.lock = .seq) (hb : s.breakOut = false) : s.Inv :=
  { h with
    breakOut := by simp [hb]
    placed := by simp [State.placed, hsPlaced, hp, hs, hm]
    lock := by simp [hl, State.between, State.wantsLock, hp, hm]
    run := fun hr => absurd hs hr
    deep := by simp [State.deep, hp, hm, Micro.flushing, Micro.probing, Micro.sending]
    sending := by simp [hm, Micro.sending]
    code := by simp [hm]
    terminated := fun _ => .inl hp }

namespace State.Run

variable {s t u : State}

theorem of_registers (h : s.Run) (ht : t = { s with
    hsStep := t.hsStep, hsAddr := t.hsAddr, hsT0 := t.hsT0, hsKb := t.hsKb, hsKind := t.hsKind
    hsChained := t.hsChained, events := t.events, micro := t.micro, frame := t.frame, env := t.env
    breakOut := t.breakOut, baud := t.baud }) : t.Run := by
  rw [ht]
  exact ⟨h.core.of_registers rfl, h.pending, h.quiet, h.lock, h.phase⟩

theorem of_inv (h : s.Inv) (hs : s.hsStep ≠ .idle) : s.Run := by
  obtain ⟨hc, hq⟩ := h.run hs
  have hp : s.phase = .a := by
    have hpl := h.placed
    cases hph : s.phase <;> simp [State.placed, hph, hs] at hpl ⊢
  exact ⟨h.core, hc, hq, by simpa [State.between, State.wantsLock, hp, hs] using h.lock, hp⟩

theorem live (h : s.Run) : s.iterates = true := live_of_pending h.pending

theorem readDone (h : s.Run) (n : Nat) : (s.readDone n).Run := by
  unfold State.readDone
  split <;> exact h.of_registers rfl

theorem goto (h : s.Run) (m : Micro) : (s.goto m).Run := h.of_registers rfl

theorem toStep (h : s.Run) (x : HsStep) : (s.toStep x).Run := h.of_registers rfl

theorem lineSetBreak (h : s.Run) (b : Bool) : (s.lineSetBreak b).Run := h.of_registers rfl

theorem lineSetBaud (h : s.Run) (r : BitVec 32) : (s.lineSetBaud r).Run := h.of_registers rfl

theorem linePurge (h : s.Run) (rx tx : Bool) : (s.linePurge rx tx).Run := by
  cases rx <;> exact h.of_registers rfl

theorem lineWrite (h : s.Run) (bs : List Byte) : (s.lineWrite bs).Run := h.of_registers rfl

theorem raise (h : s.Run) (e : Event) : (s.raise e).Run := h.of_registers rfl

theorem takeKeys (h : s.Run) (n : Nat) : (s.takeKeys n).Run := (h.readDone n).of_registers rfl

/-- The invariant at a position of a handshake step. -/
theorem inv (h : s.Run) (hidle : s.hsStep ≠ .idle)
    (hp : hsPlaced s.hsStep s.hsKb.length s.hsKind s.micro = true)
    (hb : s.breakOut = true → s.mayBreak = true) (hsend : s.micro.sending = true → s.txq ≠ []) : s.Inv := by
  obtain ⟨-, -, -, he, -, hx, -⟩ := h.quiet
  exact { h.core with
    breakOut := hb
    placed := by simpa [State.placed, h.phase] using hp
    lock := by simp [h.lock, State.between, State.wantsLock, h.phase, hidle]
    run := fun _ => ⟨h.pending, h.quiet⟩
    deep := fun _ => h.live
    sending := fun hm => ⟨hsend hm, he, hx⟩
    code := fun hm => by cases hs : s.hsStep <;> simp_all [hsPlaced, Micro.startOrWait, Micro.inSlot, Micro.readsOne,
      Micro.rereadsOne, Micro.lastChance, Micro.sending]
    terminated := fun _ => .inl h.phase }

/-- A micro-step of a run from `s` ends in `t`, in no transmission. -/
theorem keeps {h' : HsStep} {m : Micro} (h : s.Run) (ht : t.Run) (hs : t.hsStep = h') (hm : t.micro = m)
    (hp : hsPlaced h' t.hsKb.length t.hsKind m = true) (hb : t.breakOut = false ∨ t.mayBreak = true)
    (hidle : h' ≠ .idle := by decide) (hsend : m.sending = false := by rfl) : s.Keeps (.next t) := by
  subst hs hm
  refine ⟨t, rfl, ht.inv hidle hp (fun hbr => ?_) (by simp [hsend]), .inl (ht.pending.trans h.pending.symm)⟩
  exact hb.resolve_left (by simp [hbr])

theorem keeps_toStep (h : s.Run) (ht : t.Run) (x : HsStep) (hp : hsPlaced x t.hsKb.length t.hsKind .start = true)
    (hb : t.breakOut = false) (hidle : x ≠ .idle := by decide) : s.Keeps (.next (t.toStep x)) :=
  h.keeps (h' := x) (ht.toStep x) rfl rfl hp (.inl hb) hidle

theorem keeps_goto {h' : HsStep} (h : s.Run) (ht : t.Run) (m : Micro) (hs : t.hsStep = h')
    (hp : hsPlaced h' t.hsKb.length t.hsKind m = true) (hb : t.breakOut = false) (hidle : h' ≠ .idle := by decide)
    (hsend : m.sending = false := by rfl) : s.Keeps (.next (t.goto m)) :=
  h.keeps (ht.goto m) hs rfl hp (.inl hb) hidle hsend

/-- The run fails in `u`, which the micro-step from `s` has come to (R237). -/
theorem keeps_hsFail (h : s.Run) (hu : u.Run) (hev : ∃ l, u.events = s.events ++ l) (c : HsCause) :
    s.Keeps (.next (u.hsFail c)) := by
  rw [State.hsFail_of_live (State.ne_disconnected hu.live)]
  have hcore := hu.core.cleared (t := { u.called (.setBreak false) with
    breakOut := false, events := u.events ++ [.handshakeFailed c] }) rfl rfl rfl
  refine ⟨_, rfl, (hcore.of_registers rfl).inv_test hu.phase rfl rfl hu.lock rfl, ?_⟩
  obtain ⟨l, hl⟩ := hev
  refine .of_cleared (u := { u.called (.setBreak false) with
    breakOut := false, events := u.events ++ [.handshakeFailed c] }) h.live (hu.pending.trans h.pending.symm)
    ⟨l ++ [.handshakeFailed c], ?_⟩ rfl rfl
  simp [hl]

theorem keeps_hsFail_self (h : s.Run) (c : HsCause) : s.Keeps (.next (s.hsFail c)) :=
  h.keeps_hsFail h ⟨[], by simp⟩ c

theorem keeps_hsFail_read (h : s.Run) (n : Nat) (c : HsCause) : s.Keeps (.next ((s.readDone n).hsFail c)) :=
  h.keeps_hsFail (h.readDone n) (State.Extends.readDone (w := false) n).events c

end State.Run

theorem State.Inv.hsPlaced {s : State} (h : s.Inv) (hs : s.hsStep ≠ .idle) :
    hsPlaced s.hsStep s.hsKb.length s.hsKind s.micro = true := by
  have hpl := h.placed
  simpa [State.placed, (State.Run.of_inv h hs).phase] using hpl

theorem State.Inv.no_break {s : State} (h : s.Inv) (hm : s.mayBreak = false) : s.breakOut = false := by
  have hb := h.breakOut
  simpa [hm] using hb

section
variable {s : State}

/-! One lemma per handshake step. -/

theorem keeps_s0 (h : s.Inv) (hs : s.hsStep = .s0) : s.Keeps (seqStep s) := by
  have hrun : s.Run := .of_inv h (by simp [hs])
  have hpl := h.hsPlaced (by simp [hs])
  simp only [hs, hsPlaced, Bool.and_eq_true, beq_iff_eq] at hpl
  obtain ⟨hn, hm⟩ := hpl
  have hb : s.breakOut = false := h.no_break (by simp [State.mayBreak, hs])
  cases hmic : s.micro <;> simp [hmic, Micro.startOrWait] at hm
  case start =>
    rw [seqStep_s0_start hrun.phase hs hmic]
    unfold State.s0Begin
    dsimp only
    split
    · exact hrun.keeps_goto (hrun.lineSetBreak false) _ hs (by simp [hsPlaced, Micro.startOrWait, hn]) rfl
    · exact hrun.keeps_goto ((hrun.lineSetBreak false).lineSetBaud _) _ hs
        (by simp [hsPlaced, Micro.startOrWait, hn]) rfl
  case wait t =>
    rw [seqStep_s0_wait hrun.phase hs hmic]
    exact hrun.keeps_toStep hrun _ (by simp [hsPlaced, hn]) hb

/-- In step S1 the address character is met (R213). -/
theorem seqStep_s1 (hp : s.phase = .a) (hs : s.hsStep = .s1) (hm : s.micro = .start ∨ ∃ k t, s.micro = .slot k t) :
    seqStep s = execAddr5 (s.hsAddr.extractLsb' 0 7) s := by
  have hd : decode .char5 (encode (.addr5 (s.hsAddr.extractLsb' 0 7))) = .ok (.addr5 (s.hsAddr.extractLsb' 0 7), []) :=
    decode_encode (i := .addr5 (s.hsAddr.extractLsb' 0 7)) rfl
  have hitem : s.hsItem = some (.char5, encode (.addr5 (s.hsAddr.extractLsb' 0 7))) := by
    rcases hm with hm | ⟨k, t, hm⟩ <;> simp [State.hsItem, hs, hm]
  have hsend : s.micro.sending = false := by
    rcases hm with hm | ⟨k, t, hm⟩ <;> simp [Micro.sending, hm]
  exact seqStep_handshake_item hp hsend hitem hd

theorem level5_stop (a : BitVec 7) : level5 a 9 = true := rfl

/-- A slot begins; the last one is the stop bit, which is no break (R213). -/
theorem keeps_beginSlot {t : State} (h : s.Run) (ht : t.Run) (hs : t.hsStep = .s1) (hn : t.hsKb.length = 0)
    (a : BitVec 7) {k : Nat} (hk : k < 10) : s.Keeps (.next (t.beginSlot a k)) := by
  have hm : (t.beginSlot a k).micro = .slot (k + 1) (t.hsT0 + (k + 1) * tbit t.cfg) := rfl
  have hstep : (t.beginSlot a k).hsStep = .s1 := hs
  have hkb : (t.beginSlot a k).hsKb.length = 0 := hn
  refine h.keeps ((ht.lineSetBreak _).goto _) hstep hm (by rw [hkb]; simp [hsPlaced, Micro.inSlot]; omega) ?_
  by_cases h9 : k = 9
  · subst h9
    exact .inl (by simp [State.beginSlot, level5_stop])
  · exact .inr (by simp [State.mayBreak, hstep, hm, h9])

theorem keeps_s1 (h : s.Inv) (hs : s.hsStep = .s1) : s.Keeps (seqStep s) := by
  have hrun : s.Run := .of_inv h (by simp [hs])
  have hpl := h.hsPlaced (by simp [hs])
  simp only [hs, hsPlaced, Bool.and_eq_true, beq_iff_eq] at hpl
  obtain ⟨hn, hm⟩ := hpl
  cases hmic : s.micro <;> simp [hmic, Micro.inSlot] at hm
  case start =>
    rw [seqStep_s1 hrun.phase hs (.inl hmic), execAddr5_start _ hmic]
    exact keeps_beginSlot (t := { s with hsT0 := s.env.now }) hrun (hrun.of_registers rfl) hs hn _ (k := 0) (by omega)
  case slot k t =>
    rw [seqStep_s1 hrun.phase hs (.inr ⟨k, t, hmic⟩), execAddr5_slot _ hmic]
    split
    · next hk => exact keeps_beginSlot hrun hrun hs hn _ hk
    · have hk : k = 10 := by omega
      exact hrun.keeps_toStep hrun _ (by simp [hsPlaced, hn]) (h.no_break (by simp [State.mayBreak, hs, hmic, hk]))

theorem keeps_s2 (h : s.Inv) (hs : s.hsStep = .s2) : s.Keeps (seqStep s) := by
  have hrun : s.Run := .of_inv h (by simp [hs])
  have hpl := h.hsPlaced (by simp [hs])
  simp only [hs, hsPlaced, Bool.and_eq_true, beq_iff_eq] at hpl
  obtain ⟨hn, hm⟩ := hpl
  rw [seqStep_s2_start hrun.phase hs hm]
  exact hrun.keeps_toStep (hrun.linePurge true true) _ (by simp [hsPlaced, hn])
    (h.no_break (by simp [State.mayBreak, hs]))

/-- The item of a read in a handshake step is the line's next byte. -/
theorem lineItem_cases {p q : Port} {bs : List Byte} (h : s.lineItem p = some (q, bs)) : q = p ∧ ∃ b, bs = [b] := by
  simp only [State.lineItem, Option.ite_none_left_eq_some, Option.map_eq_some_iff, Prod.mk.injEq] at h
  obtain ⟨-, b, -, rfl, rfl⟩ := h
  exact ⟨rfl, b, rfl⟩

theorem decode_sync {b : Byte} {i : Instr} {r : List Byte} (h : decode .sync [b] = .ok (i, r)) : i = .sync := by
  simp only [decode] at h
  split at h
  · exact (Prod.mk.inj (Except.ok.inj h)).1.symm
  · simp at h

theorem keeps_s3 (h : s.Inv) (hs : s.hsStep = .s3) : s.Keeps (seqStep s) := by
  have hrun : s.Run := .of_inv h (by simp [hs])
  have hpl := h.hsPlaced (by simp [hs])
  simp only [hs, hsPlaced, Bool.and_eq_true, Bool.or_eq_true, beq_iff_eq] at hpl
  obtain ⟨hn, hm⟩ := hpl
  have hb : s.breakOut = false := h.no_break (by simp [State.mayBreak, hs])
  have hsync : s.Keeps (execSync s) :=
    hrun.keeps_toStep (hrun.readDone 1) _ (by simp [hsPlaced, hn]) (by simpa using hb)
  cases hmic : s.micro <;> simp [hmic, Micro.readsOne, Micro.rereadsOne] at hm
  case start =>
    rw [seqStep_s3_start hrun.phase hs hmic]
    exact hrun.keeps_goto hrun _ hs (by simp [hsPlaced, Micro.readsOne, hn]) hb
  case read n t =>
    rcases seqStep_cases s with ⟨p, bs, i, r, hf, hd, e⟩ | e <;> rw [e]
    · rw [fetch_handshake hrun.phase (by simp [hmic, Micro.sending]), State.hsItem, hs, hmic] at hf
      obtain ⟨rfl, b, rfl⟩ := lineItem_cases hf
      rw [decode_sync hd]
      exact hsync
    · have hint : s.internal = .next s.s3Retry := by simp [State.internal, State.hsInternal, hrun.phase, hs, hmic]
      rw [hint]
      unfold State.s3Retry
      dsimp only
      split
      · exact hrun.keeps_hsFail_read 1 _
      · exact hrun.keeps_goto ((hrun.readDone 1).lineSetBaud _) _ (by simpa using hs)
          (by simp [hsPlaced, Micro.rereadsOne, hn]) (by simpa using hb)
  case reread n t =>
    rcases seqStep_cases s with ⟨p, bs, i, r, hf, hd, e⟩ | e <;> rw [e]
    · rw [fetch_handshake hrun.phase (by simp [hmic, Micro.sending]), State.hsItem, hs, hmic] at hf
      obtain ⟨rfl, b, rfl⟩ := lineItem_cases hf
      rw [decode_sync hd]
      exact hsync
    · have hint : s.internal = .next s.s3Fail := by simp [State.internal, State.hsInternal, hrun.phase, hs, hmic]
      rw [hint]
      exact hrun.keeps_hsFail_read 1 _

theorem takeKeys_length (n : Nat) : (s.takeKeys n).hsKb.length = s.hsKb.length + (s.readBytes n).length := by
  simp [State.takeKeys]

theorem readBytes_length_le (n : Nat) : (s.readBytes n).length ≤ n := by
  unfold State.readBytes
  split
  · exact Nat.zero_le n
  · exact List.length_take_le ..

theorem keeps_s4 (h : s.Inv) (hs : s.hsStep = .s4) : s.Keeps (seqStep s) := by
  have hrun : s.Run := .of_inv h (by simp [hs])
  have hpl := h.hsPlaced (by simp [hs])
  simp only [hs, hsPlaced, Bool.and_eq_true, Bool.or_eq_true, beq_iff_eq, decide_eq_true_iff] at hpl
  have hb : s.breakOut = false := h.no_break (by simp [State.mayBreak, hs])
  have hkeys (n : Nat) : (s.takeKeys n).hsStep = .s4 ∧ (s.takeKeys n).breakOut = false := by
    simp [State.takeKeys, hs, hb]
  have hfail (n : Nat) (c : HsCause) : s.Keeps (.next ((s.takeKeys n).hsFail c)) :=
    hrun.keeps_hsFail (hrun.takeKeys n) (State.Extends.takeKeys (w := false) n).events c
  cases hmic : s.micro <;> simp [hmic, Micro.readsOne, Micro.lastChance] at hpl
  case start =>
    rw [seqStep_s4_start hrun.phase hs hmic]
    exact hrun.keeps_goto (t := { s with hsKb := [] }) (hrun.of_registers rfl) _ hs
      (by simp [hsPlaced, Micro.readsOne]) hb
  case read n t =>
    have hlen := takeKeys_length (s := s) 1
    have hle := readBytes_length_le (s := s) 1
    rw [seqStep_s4_read hrun.phase hs hmic]
    unfold State.s4Read
    dsimp only
    split
    · exact hfail 1 _
    split
    · next hnone =>
      rw [List.isEmpty_iff] at hnone
      refine hrun.keeps_goto (hrun.takeKeys 1) _ (hkeys 1).1 ?_ (hkeys 1).2
      rw [hnone] at hlen
      simp [hsPlaced, Micro.lastChance, hlen]
      omega
    split
    · next hlt =>
      refine hrun.keeps_goto (hrun.takeKeys 1) _ (hkeys 1).1 ?_ (hkeys 1).2
      simp [hsPlaced, Micro.readsOne]
      omega
    · refine hrun.keeps_toStep (hrun.takeKeys 1) _ ?_ (hkeys 1).2
      simp [hsPlaced]
      omega
  case reread n t =>
    have hlen := takeKeys_length (s := s) n
    have hle := readBytes_length_le (s := s) n
    rw [seqStep_s4_reread hrun.phase hs hmic]
    unfold State.s4Last
    dsimp only
    split
    · exact hfail n _
    split
    · exact hfail n _
    · refine hrun.keeps_toStep (hrun.takeKeys n) _ ?_ (hkeys n).2
      simp [hsPlaced]
      omega

end

end Sys2Proof.Machine

namespace Sys2Proof.Machine

section
variable {s : State}

/-! ### The steps S5 to S_LEGACY keep the invariant -/

theorem keeps_kb2 (hrun : s.Run) (hn : s.hsKb.length = 2) (hb : s.breakOut = false) (p : Bool)
    (x : BitVec 7) : s.Keeps (execKb2 p x s) := by
  unfold execKb2
  split
  · exact hrun.keeps_toStep (t := { s with hsKind := .kwp2000 }) (hrun.of_registers rfl) _
      (by simp [hsPlaced, hn, Micro.startOrWait]) hb
  · exact hrun.keeps_hsFail_self _

theorem keeps_s5 (h : s.Inv) (hs : s.hsStep = .s5) : s.Keeps (seqStep s) := by
  have hrun : s.Run := .of_inv h (by simp [hs])
  have hpl := h.hsPlaced (by simp [hs])
  simp only [hs, hsPlaced, Bool.and_eq_true, Bool.or_eq_true, beq_iff_eq] at hpl
  obtain ⟨hn, hm⟩ := hpl
  have hb : s.breakOut = false := h.no_break (by simp [State.mayBreak, hs])
  cases hmic : s.micro <;> simp [hmic] at hm
  case start =>
    rw [seqStep_s5_start hrun.phase hs hmic]
    unfold State.s5Begin
    split
    · exact hrun.keeps_toStep (t := { s with hsKind := .legacy }) (hrun.of_registers rfl) _
        (by simp [hsPlaced, hn, Micro.startOrWait]) hb
    · exact hrun.keeps_goto hrun _ hs (by simp [hsPlaced, hn]) hb
  case key1 =>
    rcases seqStep_cases s with ⟨p, bs, i, r, hf, hd, e⟩ | e <;> rw [e]
    · simp only [fetch_handshake hrun.phase (by simp [hmic, Micro.sending]), State.hsItem, hs, hmic,
        Option.map_eq_some_iff, Prod.mk.injEq] at hf
      obtain ⟨b, -, rfl, rfl⟩ := hf
      simp only [decode] at hd
      split at hd
      · next i' hi =>
        obtain ⟨rfl, -⟩ := Prod.mk.inj (Except.ok.inj hd)
        obtain ⟨p, t, u, h', b', x, rfl⟩ := decodeKey1_kb1 hi
        show s.Keeps (execKb1 p t u h' b' x s)
        unfold execKb1
        split
        · exact hrun.keeps_goto hrun _ hs (by simp [hsPlaced, hn]) hb
        · exact hrun.keeps_hsFail_self _
      · simp at hd
    · have hint : s.internal = .next (s.hsFail .badKeyBytes) := by
        simp [State.internal, State.hsInternal, hrun.phase, hs, hmic]
      rw [hint]
      exact hrun.keeps_hsFail_self _
  case key2 =>
    have hk : s.hsKb[1]? = some s.hsKb[1] := List.getElem?_eq_getElem _
    have hitem : s.hsItem = some (.key2, [s.hsKb[1]]) := by simp [State.hsItem, hs, hmic, hk]
    rw [seqStep_handshake_item hrun.phase (by simp [hmic, Micro.sending]) hitem rfl]
    exact keeps_kb2 hrun hn hb _ _

/-- The step after S6 goes on by the verdict of S5 (R225). -/
theorem keeps_afterComplement {t : State} (hrun : s.Run) (ht : t.Run) (hn : t.hsKb.length = 2) (hk : t.hsKind ≠ .none)
    (hb : t.breakOut = false) : s.Keeps (.next t.afterComplement) := by
  unfold State.afterComplement
  by_cases hkwp : t.hsKind = .kwp2000
  · rw [if_pos hkwp]
    exact hrun.keeps_toStep ht _ (by simp [hsPlaced, hn, hkwp]) hb
  · have hleg : t.hsKind = .legacy := by cases h : t.hsKind <;> simp_all
    rw [if_neg hkwp]
    exact hrun.keeps_toStep ht _ (by simp [hsPlaced, hn, hleg]) hb

theorem keeps_s6 (h : s.Inv) (hs : s.hsStep = .s6) : s.Keeps (seqStep s) := by
  have hrun : s.Run := .of_inv h (by simp [hs])
  have hpl := h.hsPlaced (by simp [hs])
  simp only [hs, hsPlaced, Bool.and_eq_true, Bool.or_eq_true, beq_iff_eq, bne_iff_ne] at hpl
  obtain ⟨⟨hn, hk⟩, hm⟩ := hpl
  have hb : s.breakOut = false := h.no_break (by simp [State.mayBreak, hs])
  cases hmic : s.micro <;> simp [hmic, Micro.startOrWait, Micro.readsOne] at hm
  case start =>
    rw [seqStep_s6_start hrun.phase hs hmic]
    exact hrun.keeps_goto hrun _ hs (by simp [hsPlaced, hn, hk, Micro.startOrWait]) hb
  case wait t =>
    have hkb : s.hsKb[1]? = some s.hsKb[1] := List.getElem?_eq_getElem _
    have hitem : s.hsItem = some (.complement, [complement s.hsKb[1]]) := by simp [State.hsItem, hs, hmic, hkb]
    have hexec : seqStep s = execKb2Complement (complement s.hsKb[1]) s :=
      seqStep_handshake_item hrun.phase (by simp [hmic, Micro.sending]) hitem rfl
    rw [hexec]
    unfold execKb2Complement
    dsimp only
    split
    · exact hrun.keeps_hsFail ((hrun.lineWrite _).raise _) ⟨[_], rfl⟩ _
    split
    · exact hrun.keeps_goto (hrun.lineWrite _) _ hs (by simp [hsPlaced, hn, hk, Micro.readsOne]) hb
    · exact keeps_afterComplement hrun (hrun.lineWrite _) hn hk hb
  case read n t =>
    rw [seqStep_s6_read hrun.phase hs hmic]
    unfold State.s6Echo
    dsimp only
    split
    · exact hrun.keeps_hsFail_read 1 _
    split
    · exact keeps_afterComplement hrun (hrun.readDone 1) (by simpa using hn) (by simpa using hk) (by simpa using hb)
    · exact hrun.keeps_hsFail_read 1 _

theorem keeps_s7 (h : s.Inv) (hs : s.hsStep = .s7) : s.Keeps (seqStep s) := by
  have hrun : s.Run := .of_inv h (by simp [hs])
  have hpl := h.hsPlaced (by simp [hs])
  simp only [hs, hsPlaced, Bool.and_eq_true, Bool.or_eq_true, beq_iff_eq] at hpl
  obtain ⟨⟨hn, hk⟩, hm⟩ := hpl
  have hb : s.breakOut = false := h.no_break (by simp [State.mayBreak, hs])
  cases hmic : s.micro <;> simp [hmic, Micro.readsOne] at hm
  case start =>
    rw [seqStep_s7_start hrun.phase hs hmic]
    exact hrun.keeps_goto hrun _ hs (by simp [hsPlaced, hn, hk, Micro.readsOne]) hb
  case read n t =>
    rcases seqStep_cases s with ⟨p, bs, i, r, hf, hd, e⟩ | e <;> rw [e]
    · rw [fetch_handshake hrun.phase (by simp [hmic, Micro.sending]), State.hsItem, hs, hmic] at hf
      obtain ⟨rfl, b, rfl⟩ := lineItem_cases hf
      obtain ⟨rfl, -⟩ := Prod.mk.inj (Except.ok.inj hd)
      show s.Keeps (execAddrComplement b s)
      unfold execAddrComplement
      dsimp only
      split
      · exact hrun.keeps_toStep (hrun.readDone 1) _ (by simp [hsPlaced, hn, hk]) (by simpa using hb)
      · exact hrun.keeps_hsFail_read 1 _
    · have hint : s.internal = .next s.s7Fail := by simp [State.internal, State.hsInternal, hrun.phase, hs, hmic]
      rw [hint]
      exact hrun.keeps_hsFail_read 1 _

theorem keeps_s8 (h : s.Inv) (hs : s.hsStep = .s8) : s.Keeps (seqStep s) := by
  have hrun : s.Run := .of_inv h (by simp [hs])
  have hpl := h.hsPlaced (by simp [hs])
  simp only [hs, hsPlaced, Bool.and_eq_true, beq_iff_eq] at hpl
  obtain ⟨-, hm⟩ := hpl
  have hb : s.breakOut = false := h.no_break (by simp [State.mayBreak, hs])
  have hcore : s.s8Success.Core := { hrun.core with
    disconnected := nofun
    keyBit7 := ⟨maskKey_bit7 _, maskKey_bit7 _⟩
    attempts := fun _ => rfl }
  rw [seqStep_s8_start hrun.phase hs hm]
  refine ⟨_, rfl, hcore.inv_test hrun.phase rfl rfl hrun.lock hb, .inr ⟨?_, nofun, [_], rfl, ?_⟩⟩
  · rw [hrun.pending]
    rfl
  · rw [hrun.pending]
    exact List.mem_singleton.mpr rfl

theorem keeps_sLegacy (h : s.Inv) (hs : s.hsStep = .sLegacy) : s.Keeps (seqStep s) := by
  have hrun : s.Run := .of_inv h (by simp [hs])
  have hpl := h.hsPlaced (by simp [hs])
  simp only [hs, hsPlaced, Bool.and_eq_true, beq_iff_eq] at hpl
  have hb : s.breakOut = false := h.no_break (by simp [State.mayBreak, hs])
  rw [seqStep_sLegacy_start hrun.phase hs hpl.2]
  unfold State.legacyStep
  split
  · next a _ _ =>
    exact hrun.keeps_toStep (t := { s with hsChained := true, hsAddr := a, hsKb := [], hsKind := .none })
      (hrun.of_registers rfl) _ rfl hb
  · exact hrun.keeps_hsFail_self _

/-! ### The fast-init up to the transmission keeps the invariant -/

theorem keeps_f0 (h : s.Inv) (hs : s.hsStep = .f0) : s.Keeps (seqStep s) := by
  have hrun : s.Run := .of_inv h (by simp [hs])
  have hm := h.hsPlaced (by simp [hs])
  simp only [hs, hsPlaced, beq_iff_eq] at hm
  rw [seqStep_f0_start hrun.phase hs hm]
  exact hrun.keeps_toStep ((hrun.lineSetBreak false).lineSetBaud _) _ rfl rfl

/-- In the steps F1 to F3 the wake-up pattern is met (R128). -/
theorem seqStep_wakeup (hp : s.phase = .a) (hs : s.hsStep = .f1 ∨ s.hsStep = .f2 ∨ s.hsStep = .f3)
    (hm : s.micro.startOrWait = true) : seqStep s = execFastWakeup s := by
  have hsend : s.micro.sending = false := by cases hmic : s.micro <;> simp_all [Micro.startOrWait, Micro.sending]
  have hitem : s.hsItem = some (.wakeup, [0b101#8]) := by
    cases hmic : s.micro <;> simp [hmic, Micro.startOrWait] at hm <;> rcases hs with hs | hs | hs <;>
      simp [State.hsItem, hs, hmic]
  exact seqStep_handshake_item hp hsend hitem rfl

theorem keeps_f1 (h : s.Inv) (hs : s.hsStep = .f1) : s.Keeps (seqStep s) := by
  have hrun : s.Run := .of_inv h (by simp [hs])
  have hm := h.hsPlaced (by simp [hs])
  simp only [hs, hsPlaced] at hm
  have hb : s.breakOut = false := h.no_break (by simp [State.mayBreak, hs])
  rw [seqStep_wakeup hrun.phase (.inl hs) hm]
  cases hmic : s.micro <;> simp [hmic, Micro.startOrWait] at hm
  case start =>
    rw [execFastWakeup_f1_start hs hmic]
    exact hrun.keeps_goto hrun _ hs rfl hb
  case wait t =>
    rw [execFastWakeup_f1_wait hs hmic]
    exact hrun.keeps_toStep hrun _ rfl hb

theorem keeps_f2 (h : s.Inv) (hs : s.hsStep = .f2) : s.Keeps (seqStep s) := by
  have hrun : s.Run := .of_inv h (by simp [hs])
  have hm := h.hsPlaced (by simp [hs])
  simp only [hs, hsPlaced] at hm
  rw [seqStep_wakeup hrun.phase (.inr (.inl hs)) hm]
  cases hmic : s.micro <;> simp [hmic, Micro.startOrWait] at hm
  case start =>
    have hset : ({ s with hsT0 := s.env.now } : State).Run := hrun.of_registers rfl
    rw [execFastWakeup_f2_start hs hmic]
    exact hrun.keeps (h' := .f2) ((hset.lineSetBreak true).goto _) hs rfl rfl (.inr (by simp [State.mayBreak, hs]))
  case wait t =>
    rw [execFastWakeup_f2_wait hs hmic]
    exact hrun.keeps (h' := .f3) (hrun.toStep _) rfl rfl rfl (.inr rfl)

theorem keeps_f3 (h : s.Inv) (hs : s.hsStep = .f3) : s.Keeps (seqStep s) := by
  have hrun : s.Run := .of_inv h (by simp [hs])
  have hm := h.hsPlaced (by simp [hs])
  simp only [hs, hsPlaced] at hm
  rw [seqStep_wakeup hrun.phase (.inr (.inr hs)) hm]
  cases hmic : s.micro <;> simp [hmic, Micro.startOrWait] at hm
  case start =>
    rw [execFastWakeup_f3_start hs hmic]
    exact hrun.keeps_goto (hrun.lineSetBreak false) _ hs rfl rfl
  case wait t =>
    rw [execFastWakeup_f3_wait hs hmic]
    exact hrun.keeps_toStep hrun _ rfl (h.no_break (by simp [State.mayBreak, hs, hmic]))

theorem keeps_f4 (h : s.Inv) (hs : s.hsStep = .f4) : s.Keeps (seqStep s) := by
  have hrun : s.Run := .of_inv h (by simp [hs])
  have hm := h.hsPlaced (by simp [hs])
  simp only [hs, hsPlaced, beq_iff_eq] at hm
  obtain ⟨-, -, -, -, hign⟩ := config_ok_parts h.cfg
  have hpurged := hrun.linePurge true false
  have hset : ({ s.linePurge true false with ignoreCnt := s.cfg.fastIgnore } : State).Run :=
    ⟨{ hpurged.core with
      ignoreCap := hign
      disconnected := fun hd => absurd hd (s.iterates_iff.mp hrun.live) },
      hpurged.pending, hpurged.quiet, hpurged.lock, hpurged.phase⟩
  rw [seqStep_f4_start hrun.phase hs hm]
  exact hrun.keeps_toStep hset _ rfl (h.no_break (by simp [State.mayBreak, hs]))

/-- The request is put at the head of the queue and goes out next (R235). -/
theorem keeps_f5Push (h : s.Inv) (hs : s.hsStep = .f5) (hm : s.micro = .start) : s.Keeps (seqStep s) := by
  have hrun : s.Run := .of_inv h (by simp [hs])
  have hb : s.breakOut = false := h.no_break (by simp [State.mayBreak, hs])
  obtain ⟨-, -, -, -, -, hx, -⟩ := hrun.quiet
  rw [seqStep_f5Push hrun.phase hs hm, State.f5Push]
  by_cases hroom : s.txq.length < s.cfg.txqCap
  · rw [s.txqPushHead_of_room _ hroom]
    have hpush : ({ s with txq := ownEntry (startCommRequest s) :: s.txq } : State).Run :=
      ⟨{ hrun.core with
        txqCap := hroom
        expecting := fun he => by simp [hx] at he
        disconnected := fun hd => absurd hd (s.iterates_iff.mp hrun.live)
        queue := fun e he => by
          rcases List.mem_cons.mp he with rfl | he
          · exact serializable_ownRequest ..
          · exact h.queue e he }, hrun.pending, hrun.quiet, hrun.lock, hrun.phase⟩
    refine ⟨_, rfl, (hpush.goto .send).inv (by simp [hs]) ?_ (fun hbr => ?_) (fun _ => by simp), .inl rfl⟩
    · simp [hs, hsPlaced, Micro.sending]
    · simp [hb] at hbr
  · rw [s.txqPushHead_of_full _ (not_lt.mp hroom)]
    exact hrun.keeps_hsFail_self _

/-! ### The transmission keeps the invariant -/

/-- The two places of a transmission: phase E, and step F5. -/
theorem State.Inv.sending_place (h : s.Inv) (hm : s.micro.sending = true) :
    (s.Busy ∧ s.phase = .e) ∨ (s.Run ∧ s.hsStep = .f5) := by
  by_cases hs : s.hsStep = .idle
  · have hpl := h.placed
    have hphase : s.phase = .e := by
      cases hp : s.phase <;> cases hmic : s.micro <;>
        simp_all [State.placed, Machine.hsPlaced, Micro.sending, Micro.flushing, Micro.probing, Micro.waiting]
    exact .inl ⟨.of_inv h (by simp [hphase]) (by simp [hphase]), hphase⟩
  · have hpl := h.hsPlaced hs
    have hf5 : s.hsStep = .f5 := by
      cases hst : s.hsStep <;> cases hmic : s.micro <;> simp_all [Micro.sending, Machine.hsPlaced,
        Micro.startOrWait, Micro.inSlot, Micro.readsOne, Micro.rereadsOne, Micro.lastChance]
    exact .inr ⟨.of_inv h hs, hf5⟩

/-- The head entry is written back with the attempt charged. -/
theorem State.Core.charged (h : s.Core) (hlive : s.iterates = true) {e : Entry} {q : List Entry}
    (hq : s.txq = e :: q) : ({ s with txq := { e with attempts := e.attempts + 1 } :: q } : State).Core := by
  have hcap := h.txqCap
  have hser := h.queue
  rw [hq] at hcap hser
  exact { h with
    txqCap := hcap
    expecting := fun _ => ⟨_, q, rfl, Nat.le_add_left ..⟩
    disconnected := fun hd => absurd hd (s.iterates_iff.mp hlive)
    queue := by
      intro x hx
      rcases List.mem_cons.mp hx with rfl | hx
      · exact hser e (List.mem_cons_self ..)
      · exact hser x (List.mem_cons_of_mem _ hx) }

/-- A frame has gone out: its echo and a response are expected (R286). -/
theorem State.Core.transmitted (h : s.Core) (hlive : s.iterates = true) {e : Entry} {q : List Entry} {f : List Byte}
    (hq : s.txq = e :: q) (hf : serialize e.msg = some f) (hecho : s.echoFifo = []) : (s.transmitted e q f).Core :=
  { h.charged hlive hq with
    echoCap := by
      simp only [State.transmitted, hecho, List.nil_append]
      exact length_le_of_serialize hf
    p2maxEff := .inl rfl
    expecting := fun _ => ⟨_, q, rfl, Nat.le_add_left ..⟩
    disconnected := fun hd => absurd hd (s.iterates_iff.mp hlive) }

/-- The frame has gone out in the state `v`: the iteration is over, or the handshake steps are (R284, R235). -/
theorem keeps_afterSend {v : State} (h : s.Inv) (hm : s.micro.sending = true) (hv : v.Core) (hkept : v.kept = s.kept)
    (hev : ∃ l, v.events = s.events ++ l) : s.Keeps (.next (v.afterSend true)) := by
  have hk := hkept
  simp only [State.kept, Prod.mk.injEq] at hk
  obtain ⟨-, -, -, hstep, hb, hl, hc, hp, -⟩ := hk
  rcases h.sending_place hm with ⟨hbusy, -⟩ | ⟨hrun, hf5⟩
  · have hne : v.hsStep ≠ .f5 := by simp [hstep, hbusy.hsStep]
    rw [State.afterSend_of_pipeline hne]
    exact State.Goes.keeps_asleep (.of_core hbusy hv hkept hev)
  · have hbreak := h.no_break (by simp [State.mayBreak, hf5])
    rw [State.afterSend_of_f5 (hstep.trans hf5), if_pos rfl]
    exact ⟨_, rfl, (hv.of_registers rfl).inv_test (hp.trans hrun.phase) rfl rfl (hl.trans hrun.lock) (hb.trans hbreak),
      .inl hc⟩

/-- The line has not taken the whole frame: the attempt is charged, and a run fails (R289, R235). -/
theorem keeps_shortWrite {u : State} (h : s.Inv) (hm : s.micro.sending = true) (hu : u = { s with env := u.env })
    {e : Entry} {q : List Entry} (hq : s.txq = e :: q) (n : Nat) :
    s.Keeps (.next ((({ u with txq := { e with attempts := e.attempts + 1 } :: q } : State).raise
      (.transportError .write n)).afterSend false)) := by
  have hlive : s.iterates = true := h.deep (by simp [State.deep, hm])
  have hcharged := h.core.charged hlive hq
  rw [hu]
  rcases h.sending_place hm with ⟨hbusy, -⟩ | ⟨hrun, hf5⟩
  · rw [State.afterSend_of_pipeline (by simp [hbusy.hsStep])]
    exact State.Goes.keeps_asleep (.of_core hbusy (hcharged.of_registers rfl) rfl ⟨_, rfl⟩)
  · rw [State.afterSend_of_f5 (by exact hf5), if_neg (by simp)]
    exact hrun.keeps_hsFail (u := { s with
        txq := { e with attempts := e.attempts + 1 } :: q, env := u.env
        events := s.events ++ [.transportError .write n] })
      ⟨hcharged.of_registers rfl, hrun.pending, hrun.quiet, hrun.lock, hrun.phase⟩ ⟨_, rfl⟩ .transport

/-- `transmit()` after the write has returned (R286): `u` is `s` with the line calls of the write. -/
theorem keeps_sent {u : State} (h : s.Inv) (hm : s.micro.sending = true) (hu : u = { s with env := u.env }) {e : Entry}
    {q : List Entry} {f : List Byte} (hq : s.txq = e :: q) (hf : serialize e.msg = some f) (n : Nat) :
    s.Keeps (.next (u.sent e q f n)) := by
  obtain ⟨-, hecho, -⟩ := h.sending hm
  have hlive : s.iterates = true := h.deep (by simp [State.deep, hm])
  by_cases hn : n = f.length
  · subst hn
    have hcore := h.core.transmitted hlive hq hf hecho
    rw [State.sent_of_whole, hu]
    exact keeps_afterSend h hm (hcore.of_registers rfl) rfl ⟨_, rfl⟩
  · have hshort := keeps_shortWrite h hm hu hq n
    unfold State.sent
    dsimp only
    rwa [if_neg hn]

/-- Between two bytes of a paced frame (R385). -/
theorem keeps_nextByte {t : State} (h : s.Inv) (hm : s.micro.sending = true)
    (ht : t = { s with env := t.env, micro := t.micro }) (hm' : t.micro.sending = true) : s.Keeps (.next t) := by
  have hout := h.sending hm
  have hlive : s.iterates = true := h.deep (by simp [State.deep, hm])
  rcases h.sending_place hm with ⟨hbusy, hp⟩ | ⟨hrun, hf5⟩
  · have hbusy' : t.Busy := by
      rw [ht]
      exact hbusy.of_registers rfl
    rw [ht] at hbusy' ⊢
    exact ⟨_, rfl, hbusy'.inv_sending hp hm' hlive hout, .inl rfl⟩
  · have hrun' : t.Run := by
      rw [ht]
      exact hrun.of_registers rfl
    have hb := h.no_break (by simp [State.mayBreak, hf5])
    rw [ht] at hrun' ⊢
    refine ⟨_, rfl, hrun'.inv (by simp [hf5]) ?_ (fun hbr => ?_) (fun _ => hout.1), .inl rfl⟩
    · simp [hf5, hsPlaced, hm']
    · simp [hb] at hbr

/-- Every position of a transmission: the head entry is serializable, and the queue is not empty. -/
theorem keeps_sending (h : s.Inv) (hm : s.micro.sending = true) : s.Keeps (seqStep s) := by
  obtain ⟨hne, hecho, hexp⟩ := h.sending hm
  obtain ⟨e, q, hq⟩ := List.exists_cons_of_ne_nil hne
  have hser : serializable e.msg = true := h.queue e (by simp [hq])
  have hf := serialize_eq e.msg hser
  have hplace := h.sending_place hm
  have hphase : s.phase = .e ∨ s.phase = .a := hplace.imp And.right fun hr => hr.1.phase
  have hitem : s.fetch = some (.service .tx, [e.msg.sid]) := by
    rcases hphase with hp | hp <;> cases hmic : s.micro <;> simp [hmic, Micro.sending] at hm <;>
      simp [State.fetch, State.headItem, hp, hmic, hq]
  rw [seqStep_of_item hitem rfl, exec_transmit (decodeSid_service .tx _) hq hf]
  split
  · unfold State.sendPaced
    dsimp only
    split
    · exact keeps_sent (u := s.lineWrite _) h hm rfl hq hf _
    split
    · exact keeps_sent (u := s.lineWrite _) h hm rfl hq hf _
    · exact keeps_nextByte (t := (s.lineWrite _).goto _) h hm rfl rfl
  · exact keeps_sent (u := s.lineWrite _) h hm rfl hq hf _

theorem keeps_f5 (h : s.Inv) (hs : s.hsStep = .f5) : s.Keeps (seqStep s) := by
  have hm := h.hsPlaced (by simp [hs])
  simp only [hs, hsPlaced, Bool.or_eq_true, beq_iff_eq] at hm
  rcases hm with hm | hm
  · exact keeps_f5Push h hs hm
  · exact keeps_sending h hm

/-! ### Phase A without a run, and the sleep -/

/-- The prologue of a run (R211). -/
theorem keeps_hsBegin (h : s.Inv) (hp : s.phase = .a) (hb : s.breakOut = false) (hc : s.connState = .disconnected) :
    s.Keeps (.next ({ s with lock := .seq } : State).hsBegin) := by
  obtain ⟨hq, -, -⟩ := h.disconnected (.inl hc)
  have hrun : ({ s with lock := .seq } : State).hsBegin.Run :=
    ⟨{ h.core with disconnected := nofun, attempts := nofun }, rfl, hq, rfl, hp⟩
  refine ⟨_, rfl, hrun.inv ?_ ?_ (fun hbr => ?_) nofun, .inr ⟨?_, nofun, [_], rfl, ?_⟩⟩
  · cases hmode : s.connMode <;> simp [State.hsBegin]
  · cases hmode : s.connMode <;> simp [State.hsBegin, hsPlaced, Micro.startOrWait]
  · simp [State.hsBegin, hb] at hbr
  · rw [hc]
    rfl
  · rw [hc]
    exact List.mem_singleton.mpr rfl

theorem keeps_phaseA (h : s.Inv) (hp : s.phase = .a) (hs : s.hsStep = .idle) : s.Keeps (.next s.phaseA) := by
  have hb : s.breakOut = false := h.no_break (by simp [State.mayBreak, hs])
  unfold State.phaseA
  dsimp only
  split
  · next hdue => exact keeps_hsBegin h hp hb hdue.1
  · exact ⟨_, rfl, (h.core.of_registers rfl).inv_test hp hs rfl rfl hb, .inl rfl⟩

/-- The end of an iteration, or of one that was none, in any connection state (R250). -/
theorem inv_toSleep (h : s.Core) (hs : s.hsStep = .idle) (hb : s.breakOut = false) : s.toSleep.Inv :=
  { h.of_registers (t := s.toSleep) rfl with
    breakOut := by simp [hb]
    placed := by simp [State.placed, State.toSleep, hs, Micro.waiting]
    lock := by simp [State.toSleep, State.between]
    run := fun hr => absurd hs hr
    deep := by simp [State.deep, State.toSleep, Micro.flushing, Micro.probing, Micro.sending]
    sending := by simp [State.toSleep, Micro.sending]
    code := by simp [State.toSleep]
    terminated := fun _ => .inr rfl }

theorem keeps_afterA (h : s.Inv) (hp : s.phase = .a) (hs : s.hsStep = .idle) (hm : s.micro = .test) :
    s.Keeps (.next s.afterA) := by
  have hb : s.breakOut = false := h.no_break (by simp [State.mayBreak, hs])
  have hl : s.lock = .seq := by simpa [State.between, State.wantsLock, hp, hm] using h.lock
  unfold State.afterA
  split
  · next hlive =>
    have hbusy : s.Busy := ⟨h.core, hs, hb, hl, State.ne_terminated hlive⟩
    exact hbusy.keeps (h.core.of_registers rfl) rfl rfl rfl (stands_of_live hlive rfl)
  · exact ⟨_, rfl, inv_toSleep h.core hs hb, .inl rfl⟩

/-- The sleep is over (R250). -/
theorem keeps_sleep (h : s.Inv) (hp : s.phase = .sleep) : s.Keeps (seqStep s) := by
  have hpl := h.placed
  simp only [State.placed, hp, Bool.and_eq_true, beq_iff_eq] at hpl
  obtain ⟨hs, hm⟩ := hpl
  have hb : s.breakOut = false := h.no_break (by simp [State.mayBreak, hs])
  have hl : s.lock = .none := by simpa [State.between, hp] using h.lock
  cases hmic : s.micro <;> simp [hmic, Micro.waiting] at hm
  rw [seqStep_sleep hp hmic]
  exact ⟨_, rfl, { h.core.of_registers (t := s.toPhase .a) rfl with
    breakOut := by simp [hb]
    placed := by simp [State.placed, State.toPhase, hs, hsPlaced]
    lock := by simp [State.toPhase, State.between, State.wantsLock, hs, hl]
    run := fun hr => absurd hs hr
    deep := by simp [State.deep, State.toPhase, Micro.flushing, Micro.probing, Micro.sending]
    sending := by simp [State.toPhase, Micro.sending]
    code := by simp [State.toPhase]
    terminated := fun _ => .inl rfl }, .inl rfl⟩

theorem keeps_idle (h : s.Inv) (hp : s.phase = .a) (hs : s.hsStep = .idle) : s.Keeps (seqStep s) := by
  have hpl := h.placed
  simp only [State.placed, hp, hs, hsPlaced, Bool.or_eq_true, beq_iff_eq] at hpl
  rcases hpl with hm | hm
  · rw [seqStep_a_start hp hs hm]
    exact keeps_phaseA h hp hs
  · rw [seqStep_a_test hp hs hm]
    exact keeps_afterA h hp hs hm

/-! ### Every micro-step of the sequencer -/

theorem keeps_a (h : s.Inv) (hp : s.phase = .a) : s.Keeps (seqStep s) := by
  cases hs : s.hsStep
  case idle => exact keeps_idle h hp hs
  case s0 => exact keeps_s0 h hs
  case s1 => exact keeps_s1 h hs
  case s2 => exact keeps_s2 h hs
  case s3 => exact keeps_s3 h hs
  case s4 => exact keeps_s4 h hs
  case s5 => exact keeps_s5 h hs
  case s6 => exact keeps_s6 h hs
  case s7 => exact keeps_s7 h hs
  case s8 => exact keeps_s8 h hs
  case sLegacy => exact keeps_sLegacy h hs
  case f0 => exact keeps_f0 h hs
  case f1 => exact keeps_f1 h hs
  case f2 => exact keeps_f2 h hs
  case f3 => exact keeps_f3 h hs
  case f4 => exact keeps_f4 h hs
  case f5 => exact keeps_f5 h hs

theorem keeps_e (h : s.Inv) (hp : s.phase = .e) : s.Keeps (seqStep s) := by
  have hpl := h.placed
  simp only [State.placed, hp, Bool.and_eq_true, Bool.or_eq_true, beq_iff_eq] at hpl
  rcases hpl.2 with hm | hm
  · rw [seqStep_e_start hp hm]
    exact keeps_e_start (.of_inv h (by simp [hp]) (by simp [hp])) hp
  · exact keeps_sending h hm

/-- A micro-step of the sequencer does not stop, keeps the invariant, and moves the connection along the table. -/
theorem seqStep_keeps (h : s.Inv) : s.Keeps (seqStep s) := by
  cases hp : s.phase
  case a => exact keeps_a h hp
  case b => exact keeps_phaseB h hp
  case c => exact keeps_c h hp
  case d => exact keeps_d h hp
  case e => exact keeps_e h hp
  case sleep => exact keeps_sleep h hp

end

end Sys2Proof.Machine

namespace Sys2Proof.Machine

/-! ### The other agents keep the invariant -/

section
variable {s t : State}

/-- Events and the environment are not the invariant's matter. -/
theorem State.Inv.of_env (h : s.Inv) (ht : t = { s with events := t.events, env := t.env }) : t.Inv := by
  rw [ht]
  exact { h with }

theorem State.Quiet.tick (h : s.Quiet) (dt : Nat) : (s.tick dt).Quiet := by
  obtain ⟨h1, h2, h3, h4, h5, h6, h7, h8, h9, p1, p2, p3, pd, hk⟩ := h
  refine ⟨h1, h2, h3, h4, h5, h6, h7, h8, h9, ?_, ?_, ?_, ?_, hk⟩
  · rw [← p1]; exact Stopwatch.advance_of_stopped (by simp [p1]) dt
  · rw [← p2]; exact Stopwatch.advance_of_stopped (by simp [p2]) dt
  · rw [← p3]; exact Stopwatch.advance_of_stopped (by simp [p3]) dt
  · rw [← pd]; exact Stopwatch.advance_of_stopped (by simp [pd]) dt

/-- Time only moves running stopwatches. -/
theorem State.Inv.tick (h : s.Inv) (dt : Nat) : (s.tick dt).Inv :=
  { h with
    disconnected := fun hd => by
      obtain ⟨hq, htxq, hign⟩ := h.disconnected hd
      exact ⟨hq.tick dt, htxq, hign⟩
    swP1 := by simpa using h.swP1
    run := fun hr => ⟨(h.run hr).1, (h.run hr).2.tick dt⟩ }

theorem State.Inv.passed (h : s.Inv) (hp : s.Passed t) : t.Inv := by
  obtain ⟨dt, env, -, -, -, rfl⟩ := hp
  exact (h.tick dt).of_env rfl

/-! ### Host commands keep the invariant -/

/-- The registers that say where the sequencer stands. -/
def State.position (s : State) : Phase × HsStep × Micro × Holder × Bool :=
  (s.phase, s.hsStep, s.micro, s.lock, s.breakOut)

/-- With the lock free the sequencer stands between two iterations. -/
theorem State.Inv.rest (h : s.Inv) (hl : s.lock = .none) :
    s.hsStep = .idle ∧ ((s.phase = .sleep ∧ s.micro.waiting = true) ∨ (s.phase = .a ∧ s.micro = .start)) := by
  have hbet : s.between = true := by
    by_contra hn
    simp [h.lock, hn] at hl
  rcases Bool.or_eq_true_iff.mp hbet with hp | hw
  · have hpl := h.placed
    simp only [beq_iff_eq] at hp
    simp only [State.placed, hp, Bool.and_eq_true, beq_iff_eq] at hpl
    exact ⟨hpl.1, .inl ⟨hp, hpl.2⟩⟩
  · obtain ⟨hp, hs, hm⟩ := s.wantsLock_iff.mp hw
    exact ⟨hs, .inr ⟨hp, hm⟩⟩

/-- There a command may change every register but those of the position. -/
theorem State.Inv.of_rest (h : s.Inv) (hl : s.lock = .none) (ht : t.Core) (hpos : t.position = s.position) : t.Inv := by
  simp only [State.position, Prod.mk.injEq] at hpos
  obtain ⟨hphase, hstep, hmic, hlock, hb⟩ := hpos
  obtain ⟨hidle, hplace⟩ := h.rest hl
  have hbreak : t.breakOut = false := hb.trans (h.no_break (by simp [State.mayBreak, hidle]))
  rcases hplace with ⟨hp, hm⟩ | ⟨hp, hm⟩
  · cases hmic' : s.micro <;> simp [hmic', Micro.waiting] at hm
    exact { ht with
      breakOut := by simp [hbreak]
      placed := by simp [State.placed, hphase, hp, hstep, hidle, hmic, hmic', Micro.waiting]
      lock := by simp [State.between, hphase, hp, hlock, hl]
      run := fun hr => absurd (hstep.trans hidle) hr
      deep := by simp [State.deep, hphase, hp, hmic, hmic', Micro.sending, Micro.flushing, Micro.probing]
      sending := by simp [hmic, hmic', Micro.sending]
      code := by simp [hmic, hmic']
      terminated := fun _ => .inr (hphase.trans hp) }
  · exact { ht with
      breakOut := by simp [hbreak]
      placed := by simp [State.placed, hphase, hp, hstep, hidle, hmic, hm, Machine.hsPlaced]
      lock := by simp [State.between, State.wantsLock, hphase, hp, hstep, hidle, hmic, hm, hlock, hl]
      run := fun hr => absurd (hstep.trans hidle) hr
      deep := by simp [State.deep, hphase, hp, hmic, hm, Micro.sending, Micro.flushing, Micro.probing]
      sending := by simp [hmic, hm, Micro.sending]
      code := by simp [hmic, hm]
      terminated := fun _ => .inl (hphase.trans hp) }

/-- The change of the connection state in a step, as R252 has it; a TERMINATE passes through Disconnected (R314). -/
def State.ConnLaw (s t : State) : Prop :=
  t.connState ≠ s.connState →
    connEdge s.connState t.connState = true
      ∧ ∃ l, t.events = s.events ++ l ∧
          (if t.connState = .communicationTerminated then .connStateChanged .disconnected .communicationTerminated ∈ l
            else .connStateChanged s.connState t.connState ∈ l)

theorem State.ConnMove.law (h : s.ConnMove t) : s.ConnLaw t := by
  intro hne
  rcases h with h | ⟨hedge, hterm, l, hl, hmem⟩
  · exact absurd h hne
  · exact ⟨hedge, l, hl, by rwa [if_neg hterm]⟩

theorem State.ConnLaw.of_same (h : t.connState = s.connState) : s.ConnLaw t := fun hne => absurd h hne

/-- A host command does not stop, keeps the invariant, and moves the connection along the table. -/
def State.Obeys (s : State) (r : Result) : Prop := ∃ t, r = .next t ∧ t.Inv ∧ s.ConnLaw t

theorem obeys_refuse (h : s.Inv) (c : Byte) (x : RefuseReason) : s.Obeys (.next (s.refuse c x)) :=
  ⟨_, rfl, h.of_env rfl, .of_same rfl⟩

/-- A command that was applied and left the connection state. -/
theorem obeys_accept (h : s.Inv) (hl : s.lock = .none) (ht : t.Core) (hpos : t.position = s.position)
    (hc : t.connState = s.connState) : s.Obeys (.next t.accept) :=
  ⟨_, rfl, (h.of_rest hl ht hpos).of_env rfl, .of_same hc⟩

theorem obeys_connect (h : s.Inv) (hl : s.lock = .none) (mode : ConnMode) (addr : Byte) (second : Option Byte)
    (n : Nat) : s.Obeys (execConnect mode addr second n s) := by
  unfold execConnect
  split
  · exact obeys_refuse h _ _
  split
  · exact obeys_refuse h _ _
  · next hd _ =>
    have hdown : s.connState = .disconnected := not_not.mp hd
    exact obeys_accept (t := { s with connMode := mode, initAddr := addr, secondAddr := second, attemptsLeft := n })
      h hl { h.core with attempts := fun hc => by simp [hdown] at hc } rfl rfl

theorem obeys_disconnect (h : s.Inv) (hl : s.lock = .none) : s.Obeys (execDisconnect s) := by
  have hzero : ({ s with attemptsLeft := 0 } : State).Core := { h.core with attempts := fun _ => rfl }
  unfold execDisconnect
  split
  · exact obeys_accept (t := { s with attemptsLeft := 0 }) h hl hzero rfl rfl
  · next hc =>
    have hmove : s.ConnMove ({ s with attemptsLeft := 0 } : State).cleared :=
      .of_cleared (State.live_of_pending hc) rfl ⟨[], by simp⟩ rfl rfl
    rw [State.enterDisconnected_of_live (by simp [hc])]
    exact ⟨_, rfl, (h.of_rest hl (hzero.cleared rfl rfl rfl) rfl).of_env rfl, hmove.law⟩
  · next hc =>
    have hlive : s.iterates = true := by simp [State.iterates, hc]
    have hpend : ({ s with attemptsLeft := 0, connState := .disconnectionPending, swDisc := ⟨true, 0⟩ } : State).Core :=
      { h.core with disconnected := nofun, attempts := fun _ => rfl }
    have hcore : s.beginDisconnect.Core := by
      rw [State.beginDisconnect_eq]
      split
      · next hroom => exact (hpend.pushed rfl hroom (serializable_ownRequest ..)).of_registers rfl
      · exact hpend.of_registers rfl
    have hpos : s.beginDisconnect.position = s.position := by
      rw [State.beginDisconnect_eq]
      rfl
    have hmove : s.ConnMove s.beginDisconnect := by
      rw [State.beginDisconnect_eq]
      refine .inr ⟨by rw [hc]; rfl, nofun, [_], rfl, ?_⟩
      rw [hc]
      exact List.mem_singleton.mpr rfl
    exact ⟨_, rfl, (h.of_rest hl hcore hpos).of_env rfl, hmove.law⟩
  · exact ⟨_, rfl, h.of_env rfl, .of_same rfl⟩
  · exact obeys_refuse h _ _

/-- TERMINATE: the entry to Disconnected, then CommunicationTerminated (R314). -/
theorem obeys_terminate (h : s.Inv) (hl : s.lock = .none) : s.Obeys (execTerminate s) := by
  unfold execTerminate
  split
  · exact ⟨_, rfl, h.of_env rfl, .of_same rfl⟩
  next hn =>
  have hterm : s.connState ≠ .communicationTerminated := fun hc => hn (s.terminated_eq.mpr hc)
  have hu : ∃ u, s.enterDisconnected .terminated = u ∧ u.Core ∧ u.position = s.position
      ∧ u.connState = .disconnected := by
    by_cases hd : s.connState = .disconnected
    · exact ⟨s, State.enterDisconnected_of_down hd _, h.core, rfl, hd⟩
    · exact ⟨_, State.enterDisconnected_of_live hd _, h.core.cleared rfl rfl rfl, rfl, rfl⟩
  obtain ⟨u, he, hcore, hpos, hdown⟩ := hu
  have hev : ∃ l, u.events = s.events ++ l := he ▸ (State.Extends.enterDisconnected (w := false) .terminated).events
  have hend : ({ u with attemptsLeft := 0, connState := .communicationTerminated } : State).Core :=
    { hcore with disconnected := fun _ => hcore.disconnected (.inl hdown), attempts := fun _ => rfl }
  have hinv : (({ u with attemptsLeft := 0, connState := .communicationTerminated } : State).raise
      (.connStateChanged .disconnected .communicationTerminated)).Inv := h.of_rest hl (hend.of_registers rfl) hpos
  unfold State.terminate
  rw [he]
  refine ⟨_, rfl, hinv.of_env rfl, fun _ => ?_⟩
  obtain ⟨l, hl'⟩ := hev
  refine ⟨?_, l ++ [.connStateChanged .disconnected .communicationTerminated], ?_, ?_⟩
  · show connEdge s.connState .communicationTerminated = true
    cases hc : s.connState
    case communicationTerminated => exact absurd hc hterm
    all_goals rfl
  · show u.events ++ [_] = _
    rw [hl', List.append_assoc]
  · exact (if_pos (by rfl)).mpr (List.mem_append_right _ (List.mem_singleton.mpr rfl))

/-- ENQUEUE, at any position: the entry goes to the tail of the queue (R316). -/
theorem obeys_enqueue (h : s.Inv) (m : Message) (probe : Bool) : s.Obeys (execEnqueue m probe s) := by
  rw [execEnqueue_eq]
  split
  · exact obeys_refuse h _ _
  split
  · exact obeys_refuse h _ _
  split
  · exact obeys_refuse h _ _
  next hconn hser hroom =>
  have hlive : s.iterates = true := by
    by_contra hn
    refine hconn ⟨fun hc => hn ?_, fun hc => hn ?_⟩ <;> simp [State.iterates, hc]
  have hcore := h.core.pushed (e := ⟨m, 0, probe, false⟩) hlive (not_le.mp hroom) (by simpa using hser)
  have hinv : ({ s with txq := s.txq ++ [⟨m, 0, probe, false⟩] } : State).Inv := { hcore with
    breakOut := h.breakOut
    placed := h.placed
    lock := h.lock
    run := h.run
    deep := h.deep
    sending := fun hm => ⟨by simp, (h.sending hm).2⟩
    code := h.code
    terminated := h.terminated }
  exact ⟨_, rfl, hinv.of_env rfl, .of_same rfl⟩

theorem State.Core.writeTiming (h : s.Core) (which : WhichTiming) {tp : TimingSet} (hlegal : tp.legal = true) :
    (s.writeTiming which tp).Core := by
  have hset : (enforce tp).enforced = true ∧ (enforce tp).fits = true := ⟨enforced_enforce tp, fits_enforce hlegal⟩
  cases which with
  | default => exact { h with tpDefault := hset }
  | current => exact { h with tpCurrent := hset, p2maxEff := .inl rfl }
  | limits => exact { h with tpLimits := hset }

theorem obeys_setTiming (h : s.Inv) (hl : s.lock = .none) (which : WhichTiming) (tp : TimingSet) :
    s.Obeys (execSetTiming which tp s) := by
  unfold execSetTiming
  split
  · exact obeys_refuse h _ _
  split
  · next hlegal =>
    exact obeys_accept h hl (h.core.writeTiming which hlegal) (by cases which <;> rfl) (by cases which <;> rfl)
  · exact obeys_refuse h _ _

theorem obeys_resetTiming (h : s.Inv) (hl : s.lock = .none) : s.Obeys (execResetTiming s) := by
  unfold execResetTiming
  split
  · exact obeys_refuse h _ _
  · exact obeys_accept (t := { s with tpCurrent := s.tpDefault, p2maxEff := s.tpDefault.p2max }) h hl
      { h.core with tpCurrent := h.tpDefault, p2maxEff := .inl rfl } rfl rfl

theorem obeys_setBaud (h : s.Inv) (hl : s.lock = .none) (rate : BitVec 32) : s.Obeys (execSetBaud rate s) := by
  unfold execSetBaud
  split
  · exact obeys_refuse h _ _
  split
  · exact obeys_refuse h _ _
  · exact obeys_accept h hl (h.core.of_registers rfl) rfl rfl

/-- Every command, where the lock lets it run. -/
theorem exec_obeys {i : Instr} (h : s.Inv) (hp : i.port = .command) (hl : locked i = true → s.lock = .none) :
    s.Obeys (exec i s) := by
  cases i <;> simp only [Instr.port, reduceCtorEq] at hp
  case connect mode addr second n => exact obeys_connect h (hl rfl) mode addr second n
  case disconnect => exact obeys_disconnect h (hl rfl)
  case terminate => exact obeys_terminate h (hl rfl)
  case enqueue m probe => exact obeys_enqueue h m probe
  case setTiming which tp => exact obeys_setTiming h (hl rfl) which tp
  case resetTiming => exact obeys_resetTiming h (hl rfl)
  case setBaud rate => exact obeys_setBaud h (hl rfl) rate
  case readStatus e => exact ⟨_, rfl, h.of_env rfl, .of_same rfl⟩
  case unassigned c => exact obeys_refuse h _ _

/-! ### The step -/

/-- Where the invariant holds, a step of any agent has a next state, keeps the invariant, and moves the connection as
R252 says. -/
theorem step_obeys (h : s.Inv) : s.Obeys (step s) := by
  rcases step_cases s with ⟨u, hu, e⟩ | ⟨t, hp, e⟩ | ⟨c, ops, ms, i, r, -, hd, hl, e⟩ | ⟨c, ops, ms, -, e⟩ <;> rw [e]
  · have hinv : u.Inv := by
      rcases hu with rfl | rfl
      · exact h
      · exact h.of_env rfl
    obtain ⟨t, ht, hinv', hmove⟩ := seqStep_keeps hinv
    refine ⟨t, ht, hinv', ?_⟩
    rcases hu with rfl | rfl
    · exact hmove.law
    · exact State.ConnMove.law (s := s) hmove
  · refine ⟨t, rfl, h.passed hp, .of_same ?_⟩
    obtain ⟨dt, env, -, -, -, rfl⟩ := hp
    rfl
  · exact exec_obeys h (decode_command_port hd) hl
  · exact ⟨_, rfl, h.of_env rfl, .of_same rfl⟩

end

/-- Settles O53: `step_obeys`, agent by agent, and for the sequencer position by position. -/
theorem stepKeepsInv : Obligations.StepKeepsInv := by
  intro s t h ht
  obtain ⟨u, hu, hinv, -⟩ := step_obeys h
  obtain rfl := Host.Outcome.next.inj (hu.symm.trans ht)
  exact hinv

/-- Settles O54: at every position the invariant allows there is a micro-step. -/
theorem stepNeverStops : Obligations.StepNeverStops := by
  intro s h
  obtain ⟨u, hu, -⟩ := step_obeys h
  exact ⟨u, hu⟩

/-- Settles O58: the law of `step_obeys`. -/
theorem connStateTransitions : Obligations.ConnStateTransitions := by
  intro s t h ht
  obtain ⟨u, hu, -, hlaw⟩ := step_obeys h
  obtain rfl := Host.Outcome.next.inj (hu.symm.trans ht)
  exact hlaw

end Sys2Proof.Machine

namespace Sys2Proof.Machine

/-! ### The block without a connection and without an attempt left (R349, R372) -/

/-- No register of the connection has changed, and nothing has been put out. -/
def State.Silent (s t : State) : Prop :=
  t.connState = s.connState ∧ t.attemptsLeft = s.attemptsLeft ∧ t.env.lineLog = s.env.lineLog ∧ t.events = s.events

section
variable {s : State}

theorem State.Inv.idle_of_disconnected (h : s.Inv) (hc : s.connState = .disconnected) :
    s.hsStep = .idle ∧ s.deep = false := by
  constructor
  · by_contra hs
    exact absurd (h.run hs).1 (by simp [hc])
  · rw [Bool.eq_false_iff]
    intro hd
    exact State.ne_disconnected (h.deep hd) hc

/-- In phase A no run is due, and no iteration follows. -/
theorem silent_a (hp : s.phase = .a) (hs : s.hsStep = .idle) (hm : s.micro = .start ∨ s.micro = .test)
    (hc : s.connState = .disconnected) (ha : s.attemptsLeft = 0) : ∃ t, seqStep s = .next t ∧ s.Silent t := by
  rcases hm with hm | hm
  · rw [seqStep_a_start hp hs hm, State.phaseA]
    dsimp only
    rw [if_neg (by simp [ha])]
    exact ⟨_, rfl, rfl, rfl, rfl, rfl⟩
  · rw [seqStep_a_test hp hs hm, State.afterA, if_neg (by simp [State.iterates, hc])]
    exact ⟨_, rfl, rfl, rfl, rfl, rfl⟩

/-- In phase C there is nothing to scan. -/
theorem silent_c (hp : s.phase = .c) (hm : s.micro = .start) (hq : s.Quiet) :
    ∃ t, seqStep s = .next t ∧ s.Silent t := by
  obtain ⟨-, hdirty, hflush, -⟩ := hq
  rw [seqStep_phaseC hp hm (.inr (.inl hdirty)), State.phaseC, if_neg (by simp [hflush]), if_neg (by simp [hdirty])]
  exact ⟨_, rfl, rfl, rfl, rfl, rfl⟩

/-- In phase D no stopwatch runs, so nothing expires. -/
theorem silent_d (hp : s.phase = .d) (hdeep : s.deep = false) (hpl : s.placed = true) (hc : s.connState = .disconnected)
    (hq : s.Quiet) : ∃ t, seqStep s = .next t ∧ s.Silent t := by
  simp only [State.placed, hp, Bool.and_eq_true] at hpl
  cases hm : s.micro <;> simp [hm, Micro.probing] at hpl
  case probe1 | probe3 => simp [State.deep, hm, Micro.probing] at hdeep
  case start =>
    rw [seqStep_d_start hp hm, State.checkP1]
    split <;> exact ⟨_, rfl, rfl, rfl, rfl, rfl⟩
  case checkP2 =>
    obtain ⟨-, -, -, -, -, -, -, -, -, -, h2, -⟩ := hq
    have hover : s.p2Over = false := by
      rw [Bool.eq_false_iff]
      intro ho
      have hrun := (s.p2Over_iff.mp ho).2.1
      simp [h2] at hrun
    rw [seqStep_d_checkP2 hp hm, State.checkP2_of_not_over hover]
    exact ⟨_, rfl, rfl, rfl, rfl, rfl⟩
  case checkP3 =>
    rw [seqStep_d_checkP3 hp hm, State.checkP3]
    split <;> exact ⟨_, rfl, rfl, rfl, rfl, rfl⟩
  case checkDisc =>
    have hover : s.discOver = false := by simp [State.discOver, hc]
    rw [seqStep_d_checkDisc hp hm, State.checkDisc, if_neg (by simp [hover])]
    exact ⟨_, rfl, rfl, rfl, rfl, rfl⟩

/-- In phase E the gate is closed. -/
theorem silent_e (hp : s.phase = .e) (hm : s.micro = .start) (hc : s.connState = .disconnected) :
    ∃ t, seqStep s = .next t ∧ s.Silent t := by
  have hclosed : s.canTx = false := by simp [State.canTx, hc]
  rw [seqStep_e_start hp hm, State.phaseE_of_closed hclosed]
  exact ⟨_, rfl, rfl, rfl, rfl, rfl⟩

/-- The sequencer goes round its loop without a trace. -/
theorem seqStep_silent (h : s.Inv) (hc : s.connState = .disconnected) (ha : s.attemptsLeft = 0) :
    ∃ t, seqStep s = .next t ∧ s.Silent t := by
  obtain ⟨hs, hdeep⟩ := h.idle_of_disconnected hc
  obtain ⟨hq, -, -⟩ := h.disconnected (.inl hc)
  have hpl := h.placed
  have hd := hdeep
  simp only [State.deep, Bool.or_eq_false_iff, beq_eq_false_iff_ne] at hd
  obtain ⟨⟨⟨⟨⟨hb, hflush⟩, hdisp⟩, hcode⟩, -⟩, hsend⟩ := hd
  cases hp : s.phase
  case a =>
    simp only [State.placed, hp, hs, hsPlaced, Bool.or_eq_true, beq_iff_eq] at hpl
    exact silent_a hp hs hpl hc ha
  case b => exact absurd hp hb
  case c =>
    have hm : s.micro = .start := by simpa [State.placed, hp, hs, hflush, hdisp, hcode] using hpl
    exact silent_c hp hm hq
  case d => exact silent_d hp hdeep hpl hc hq
  case e =>
    have hm : s.micro = .start := by simpa [State.placed, hp, hs, hsend] using hpl
    exact silent_e hp hm hc
  case sleep =>
    cases hm : s.micro <;> simp [State.placed, hp, hs, hm, Micro.waiting] at hpl
    rw [seqStep_sleep hp hm]
    exact ⟨_, rfl, rfl, rfl, rfl, rfl⟩

end

/-- Settles O60: the sequencer's loop is silent, the other agents only give time and bytes; the empty queue and buffer
are the invariant's. -/
theorem idleUntilConnect : Obligations.IdleUntilConnect := by
  intro s t h hc ha hhost ht
  have hsilent : s.Silent t := by
    rcases step_cases s with ⟨u, hu, e⟩ | ⟨v, ⟨dt, env, -, hlog, -, rfl⟩, e⟩ | ⟨c, ops, ms, i, r, hs, -⟩ |
      ⟨c, ops, ms, hs, -⟩
    · rw [e] at ht
      have hsame : u.Inv ∧ u.connState = s.connState ∧ u.attemptsLeft = s.attemptsLeft
          ∧ u.env.lineLog = s.env.lineLog ∧ u.events = s.events := by
        rcases hu with rfl | rfl
        · exact ⟨h, rfl, rfl, rfl, rfl⟩
        · exact ⟨h.of_env rfl, rfl, rfl, rfl, rfl⟩
      obtain ⟨hinv, hconn, hleft, hlog, hev⟩ := hsame
      obtain ⟨v, hv, h1, h2, h3, h4⟩ := seqStep_silent hinv (hconn.trans hc) (hleft.trans ha)
      obtain rfl := Host.Outcome.next.inj (hv.symm.trans ht)
      exact ⟨h1.trans hconn, h2.trans hleft, h3.trans hlog, h4.trans hev⟩
    · obtain rfl := Host.Outcome.next.inj (e.symm.trans ht)
      exact ⟨rfl, rfl, hlog, rfl⟩
    · exact absurd hs (hhost c ops ms)
    · exact absurd hs (hhost c ops ms)
  obtain ⟨hconn, hleft, hlog, hev⟩ := hsilent
  have hdown : t.connState = .disconnected := hconn.trans hc
  obtain ⟨⟨hrx, -⟩, htxq, -⟩ := (stepKeepsInv s t h ht).disconnected (.inl hdown)
  exact ⟨hdown, hleft.trans ha, hlog, hev, htxq, hrx⟩

end Sys2Proof.Machine
